-- ==== Sys2Proof/Word.lean ====
section
/-!
DEFINITION. The word types of the Arzeska 3280 that the manual treats as bits: bytes, host addresses and
the fixed-width numbers that wrap.
-/
namespace Sys2Proof

/-- One byte of host memory or of a register access. -/
abbrev Byte := BitVec 8

/-- A host byte address, 64 bits (R158, R189). -/
abbrev Addr := BitVec 64

/-- An amplitude of one loop, 0..65535, where 65535 means saturated (R8). -/
abbrev Amp := BitVec 16

/-- A microsecond value of the stroke clock, wrapping at 32 bits (R182). -/
abbrev Micros := BitVec 32

/-- A 16-bit number that wraps: stroke number, sequence number, tool code (R30, R31, R33). -/
abbrev Half := BitVec 16

end Sys2Proof
end

