-- ==== Sys2Proof/Syntax.lean ====
section
/-!
DEFINITION. The commands of the 3280: one constructor of Instr per row of spec/opcode_table.json, with the
operands each takes from outside the part. The table gives no operands, so these are the model's
(log entry 3): register writes carry the written value, completions carry the bytes that arrived, posts carry
their slot and the body fields of R194 as stored, inputs carry their new value.
-/
namespace Sys2Proof

/-- The two pen channels (R3). -/
inductive Channel where
  | a
  | b
  deriving DecidableEq, Repr, Inhabited

/-- What the ring coil carries in one frame (R8): nothing, the MARK, or one of four digits. -/
inductive Symbol where
  | none
  | mark
  | digit (d : Fin 4)
  deriving DecidableEq, Repr, Inhabited

/-- The result of one listening window (R8). -/
inductive WindowResult where
  /-- tip window: X amplitudes, Y amplitudes, phase code r -/
  | tip (x y : List Amp) (r : BitVec 12)
  /-- ring window: X amplitudes, Y amplitudes, symbol -/
  | ring (x y : List Amp) (s : Symbol)
  deriving DecidableEq, Repr

/-- An edge of the panel frame sync input (R15). -/
inductive Edge where
  | rising
  | falling
  deriving DecidableEq, Repr

/-- The inputs the Link Port takes from the link and from the PCIe configuration (R157), as they stand. -/
structure LinkInputs where
  /-- link state: true is ACTIVE, false is DOWN -/
  up : Bool
  /-- bus mastering enable -/
  mastering : Bool
  /-- message-signalled interrupt enable -/
  msiOn : Bool
  /-- message address -/
  msiAddr : Addr
  /-- message data -/
  msiData : BitVec 32
  deriving DecidableEq, Repr, Inhabited

/-- The two words of the FAULT register (R173). -/
inductive FaultWord where
  /-- offset 0x14 -/
  | field
  /-- offset 0x1C -/
  | time
  deriving DecidableEq, Repr

/-- A write access to TABLE BASE (R173, R181): one word, or both in one 8-byte access at 0x20. -/
inductive TableBaseAccess where
  | low (v : BitVec 32)
  | high (v : BitVec 32)
  | both (v : BitVec 64)
  deriving DecidableEq, Repr

/-- CAPTURE parameters as stored in the body (R194). -/
structure CaptureParams where
  buffer : Addr
  capacity : BitVec 32
  mask : Byte
  endFlags : Byte
  timeout : BitVec 32
  deriving DecidableEq, Repr

/-- PROFILE parameters as stored in the body (R194). -/
structure ProfileParams where
  op : Byte
  key : Half
  source : Addr
  deriving DecidableEq, Repr

/-- MAP_LOAD and MAP_READ parameters as stored in the body (R194). MAP_READ does not use flags. -/
structure MapParams where
  start : BitVec 16
  count : BitVec 16
  flags : Byte
  addr : Addr
  deriving DecidableEq, Repr

/-- SCAN_SETUP parameters as stored in the body (R194). -/
structure ScanSetupParams where
  rate : Byte
  enables : Byte
  divisor : Byte
  deriving DecidableEq, Repr

/-- TRACE parameters as stored in the body (R194). -/
structure TraceParams where
  channel : Byte
  trigger : Byte
  pre : Byte
  post : BitVec 16
  level : BitVec 16
  capacity : BitVec 32
  dest : Addr
  deriving DecidableEq, Repr

/-- COUNTERS parameters as stored in the body (R194). -/
structure CountersParams where
  dest : Addr
  flags : Byte
  deriving DecidableEq, Repr

/-- CANCEL parameters as stored in the body (R194). -/
structure CancelParams where
  target : Byte
  mask : Byte
  slot : Byte
  deriving DecidableEq, Repr

/-- A post body read from host memory, its parameters by kind (R194). -/
inductive Post where
  | capture (p : CaptureParams)
  | profile (p : ProfileParams)
  | mapLoad (p : MapParams)
  | mapRead (p : MapParams)
  | scanSetup (p : ScanSetupParams)
  | trace (p : TraceParams)
  | counters (p : CountersParams)
  | cancel (p : CancelParams)
  | clockSet (value : BitVec 32)
  deriving DecidableEq, Repr

/-- A command of the block: one constructor per row of the opcode table, in the table's order. The CONTROL
rows carry the whole written word w, since R176 takes all its fields in one event; the row's own bit is as
the row says. -/
inductive Instr where
  /-- R187: power is applied, with this board word and these link inputs -/
  | powerOn (board : BitVec 16) (inputs : LinkInputs)
  /-- R187: a link reset, with the board word taken and the link inputs as they stand after it -/
  | linkReset (board : BitVec 16) (inputs : LinkInputs)
  /-- R177: a CONTROL write with RESET set -/
  | softReset (w : BitVec 32)
  /-- R11: a CONTROL write with RUN 1 -/
  | runSet (w : BitVec 32)
  /-- R12: a CONTROL write with RUN 0 -/
  | runClear (w : BitVec 32)
  /-- R129: a CONTROL write with INTAKE 1 -/
  | intakeSet (w : BitVec 32)
  /-- R135: a CONTROL write with INTAKE 0 -/
  | intakeClear (w : BitVec 32)
  /-- R135: a CONTROL write, read for its BATCH bit -/
  | batch (w : BitVec 32)
  /-- R180: a CONTROL write, read for its mask bits -/
  | maskWrite (w : BitVec 32)
  /-- R171: a CONTROL write with RESUME set -/
  | resume (w : BitVec 32)
  /-- R130: a write of any value to PROMPT -/
  | prompt (v : BitVec 32)
  /-- R179: a write to EVENT -/
  | eventWrite (v : BitVec 32)
  /-- R168: a write of any value to a word of FAULT -/
  | faultWrite (word : FaultWord) (v : BitVec 32)
  /-- R69: a write of any value to MAPLOG -/
  | maplogWrite (v : BitVec 32)
  /-- R181: a write to TABLE BASE -/
  | tableBaseWrite (t : TableBaseAccess)
  /-- R173: a write access of this width in bytes at this offset -/
  | discardedRegisterWrite (offset : BitVec 6) (width : Fin 9) (v : BitVec 64)
  /-- R4: the frame's period expires -/
  | frameBoundary
  /-- R8: the front end completes a window of this channel -/
  | windowResult (ch : Channel) (res : WindowResult)
  /-- R52: a Solver map read grant is answered -/
  | solverNodeRead
  /-- R118: the idle timer of the capture held at this slot expires -/
  | idleTimeout (slot : Fin 32)
  /-- R16: an edge on the panel frame sync input -/
  | syncArrival (edge : Edge)
  /-- R18: the loss timer expires -/
  | lossTimerExpiry
  /-- R70: the scrub timer expires -/
  | scrubTimerExpiry
  /-- R71: a scrub grant is carried out -/
  | scrub
  /-- R75: a MAP_LOAD grant is carried out -/
  | mapLoadNodeWrite
  /-- R78: a MAP_READ grant is answered -/
  | mapReadNodeRead
  /-- R129: the sweep timer expires -/
  | sweepTimerExpiry
  /-- R131: the strip read completes with these bytes -/
  | stripReadComplete (bytes : List Byte)
  /-- R134: the body read completes with these bytes -/
  | bodyReadComplete (bytes : List Byte)
  /-- R113: the sweep handles a POSTED CAPTURE found at this slot -/
  | capture (slot : Fin 32) (notify : Bool) (p : CaptureParams)
  /-- R146: the sweep handles a POSTED TRACE found at this slot -/
  | trace (slot : Fin 32) (notify : Bool) (p : TraceParams)
  /-- R13: the sweep handles a POSTED SCAN_SETUP found at this slot -/
  | scanSetup (slot : Fin 32) (notify : Bool) (p : ScanSetupParams)
  /-- R87: the sweep handles a POSTED PROFILE with operation LOAD -/
  | profileLoad (slot : Fin 32) (notify : Bool) (key : Half) (source : Addr)
  /-- R88: the sweep handles a POSTED PROFILE with operation REMOVE -/
  | profileRemove (slot : Fin 32) (notify : Bool) (key : Half)
  /-- R89: the sweep handles a POSTED PROFILE with operation CLEAR -/
  | profileClear (slot : Fin 32) (notify : Bool)
  /-- R90: the sweep handles a POSTED PROFILE with operation DEFAULT -/
  | profileDefault (slot : Fin 32) (notify : Bool) (key : Half) (source : Addr)
  /-- R86: the profile block read completes with these bytes -/
  | profileBlockReadComplete (bytes : List Byte)
  /-- R74: the sweep handles a POSTED MAP_LOAD found at this slot -/
  | mapLoad (slot : Fin 32) (notify : Bool) (p : MapParams)
  /-- R74: a MAP_LOAD source piece read completes with these bytes -/
  | mapPieceReadComplete (bytes : List Byte)
  /-- R78: the sweep handles a POSTED MAP_READ found at this slot -/
  | mapRead (slot : Fin 32) (notify : Bool) (p : MapParams)
  /-- R185: the sweep handles a POSTED COUNTERS found at this slot -/
  | counters (slot : Fin 32) (notify : Bool) (p : CountersParams)
  /-- R122: the sweep handles a POSTED CANCEL with target MASK -/
  | cancelMask (slot : Fin 32) (notify : Bool) (mask : Byte)
  /-- R154: the sweep handles a POSTED CANCEL with target TRACE -/
  | cancelTrace (slot : Fin 32) (notify : Bool)
  /-- R123: the sweep handles a POSTED CANCEL with target SLOT -/
  | cancelSlot (slot : Fin 32) (notify : Bool) (target : Byte)
  /-- R183: the sweep handles a POSTED CLOCK_SET found at this slot -/
  | clockSet (slot : Fin 32) (notify : Bool) (value : BitVec 32)
  /-- R161: the link accepts the head write -/
  | writeAccepted
  /-- R160: the completion of the read in flight arrives as an error -/
  | readError
  /-- R160: the read timer of the read in flight expires -/
  | readTimeout
  /-- R165: the link state becomes DOWN -/
  | linkDown
  /-- R166: the link state becomes ACTIVE -/
  | linkUp
  /-- R166: the host sets the bus mastering enable to this value -/
  | busMasteringChange (on : Bool)
  /-- R62: a bit of a stored node word flips -/
  | mapBitFlip (node : Fin 1024) (bit : Fin 39)
  /-- R182: this many microseconds pass; with us = 1 the table's one tick -/
  | strokeClockTick (us : Nat)
  /-- R160: completion data arrives for a read that has already ended -/
  | staleReadCompletion (bytes : List Byte)
  /-- R180: the host sets the message-signalled interrupt enable, address and data -/
  | messageInterruptEnableChange (on : Bool) (addr : Addr) (data : BitVec 32)
  deriving DecidableEq, Repr

end Sys2Proof
end

