-- ==== Sys2Proof/Decode.lean ====
section
/-!
DEFINITION. The command a word spells. spec/opcode_table.json gives bits for none of its 55 rows (the reader's
count n_rows_with_fixed is 0), so no word spells a command.
-/
namespace Sys2Proof

/-- The command that the table's bits give for a word: none, since no row of the table has bits. -/
def decodeTableWord (_nbits _w : Nat) : Option Instr := none

end Sys2Proof
end

