-- ==== Sys2Proof/Config.lean ====
section
/-!
DEFINITION. What one implementation of the 3280 fixes and the manual leaves open. Each is a constant with
no body: nothing can be proved of its value, so a claim holds whatever it is.
-/
namespace Sys2Proof

/-- What the node check code reports of one stored word (R63), before the value is handed out. -/
inductive CodeVerdict where
  /-- the word agrees with its code -/
  | clean
  /-- the code locates one flipped bit, at this position 0..38 -/
  | corrected (bit : Fin 39)
  /-- the code detects a disagreement it cannot locate -/
  | uncorrectable
  deriving DecidableEq, Repr, Inhabited

/-- FREE VALUE (R62). A word with three or more flipped bits may be read as any of the three outcomes.
The verdict may depend on what was written (cx in the low half, cy in the high half) and on which of the 39
bits are flipped. Log entry 1. -/
opaque Config.manyFlips : BitVec 32 → BitVec 39 → CodeVerdict

/-- FREE VALUE (R165, R166). When the link is DOWN and bus mastering is disabled at the same access, the
manual states both classes and no order between them: true means the fault is classed LINK_DOWN, false
MASTER_OFF. The choice may differ from one access to the next, so it takes the number of such choices made
so far. Log entry 2. -/
opaque Config.linkDownOutranksMasterOff : Nat → Bool

end Sys2Proof
end

