-- ==== Sys2Proof/Machine/State.lean ====
section
/-!
DEFINITION. The state of the 3280 as plain data, unit by unit as the manual's table of blocks lists them, the
queue of waiting commands, the outcomes of a step and the state after reset. INVENTORY.md lists every field with
its rule and reset value.
-/
namespace Sys2Proof.Machine

open Sys2Proof

/-- The reasons a step can stop with a fault: none. Every command of the table has an effect in every state, so
no constructor is needed; a part fault (R164) is state, not a stop. Safe: no run is cut short. -/
inductive Fault where
  deriving DecidableEq, Repr

/-- The reasons a step can be refused. -/
inductive Refusal where
  /-- Raised by an arm of exec whose command has no meaning yet; safe. No arm raises it now. -/
  | notModelled (mnemonic : String)
  deriving DecidableEq, Repr

/-- One value per pen channel. -/
structure PerChannel (α : Type) where
  a : α
  b : α
  deriving DecidableEq, Repr, Inhabited

/-! ### Board word input (R1, R186, R187) -/

/-- The board word's values in force: NX/4 and NY/4 after the limits of R1, the B-fitted bit, the sync polarity. -/
structure Board where
  nx4 : Nat
  ny4 : Nat
  bFitted : Bool
  /-- sync polarity 1: the falling edge is the arrival (R15) -/
  falling : Bool
  deriving DecidableEq, Repr, Inhabited

/-! ### Scan Engine (chapter 1) -/

/-- The three frame rates (R10). -/
inductive Rate where
  | fps240
  | fps360
  | fps480
  deriving DecidableEq, Repr, Inhabited

/-- The Sync Tracker's state (R15 to R19). -/
inductive SyncState where
  | free
  | centre
  | lead
  | lag
  deriving DecidableEq, Repr, Inhabited

/-- The direction of a slip (R16, R17). -/
inductive Slip where
  | lead
  | lag
  deriving DecidableEq, Repr

/-- The placement of one window part: its origin and the number of loops it listens to (R6). -/
structure Span where
  origin : Nat
  width : Nat
  deriving DecidableEq, Repr, Inhabited

/-- What a completed tip window gave (R8). -/
structure TipData where
  x : List Amp
  y : List Amp
  r : BitVec 12
  deriving DecidableEq, Repr

/-- What a completed ring window gave (R8). -/
structure RingData where
  x : List Amp
  y : List Amp
  s : Symbol
  deriving DecidableEq, Repr

/-- One channel's two windows in a frame: where their parts lie, and the results that have completed (R5, R6, R8). -/
structure ChannelWindows where
  tipX : Span
  tipY : Span
  ringX : Span
  ringY : Span
  tip : Option TipData
  ring : Option RingData
  deriving DecidableEq, Repr

/-- A scan frame in progress (R4). -/
structure Frame where
  /-- stroke clock sampled at the frame start -/
  timeTag : Micros
  /-- the frame's records carry SLIP -/
  slipped : Bool
  /-- the frame's period in µs -/
  period : Nat
  /-- the windows of each channel that has windows in the frame -/
  wins : PerChannel (Option ChannelWindows)
  deriving DecidableEq, Repr

/-- One window part's amplitudes with the origin they start at (R9). -/
structure PartResult where
  origin : Nat
  amps : List Amp
  deriving DecidableEq, Repr

/-- One channel's frame results as handed over (R8, R9). -/
structure FrameResults where
  tipX : PartResult
  tipY : PartResult
  ringX : PartResult
  ringY : PartResult
  r : BitVec 12
  symbol : Symbol
  timeTag : Micros
  slipped : Bool
  deriving DecidableEq, Repr

/-- The values of a profile (section 5.1). -/
structure Profile where
  prox : Nat
  off : Nat
  on : Nat
  /-- r0..r8 -/
  rs : List Nat
  /-- p0..p8 -/
  ps : List Nat
  /-- smoothing k -/
  k : Nat
  /-- coil separation s -/
  s : Nat
  /-- tilt bias b -/
  bias : Nat
  deriving DecidableEq, Repr, Inhabited

/-- The state field of a stroke record (R96). -/
inductive RecState where
  | none
  | hover
  | contact
  deriving DecidableEq, Repr

/-- The event field of a stroke record (R96). -/
inductive RecEvent where
  | none
  | proxIn
  | touch
  | lift
  | proxOut
  deriving DecidableEq, Repr

/-- The record a context's transition yields (R21 step 3). -/
structure Yield where
  state : RecState
  event : RecEvent
  strokeEnd : Bool
  deriving DecidableEq, Repr

/-- One map read answered to the Solver: the correction used and whether it was UNCORRECTABLE (R52). -/
structure Correction where
  cx : Int
  cy : Int
  bad : Bool
  deriving DecidableEq, Repr

/-- A record computation that waits for map reads (R40): what the context handed the Solver (R39) and the reads
answered so far, oldest first. -/
structure SolverJob where
  ch : Channel
  results : FrameResults
  profile : Profile
  yield : Yield
  /-- the KNOWN code was not listed when the profile was resolved (R36) -/
  unlisted : Bool
  got : List Correction
  deriving DecidableEq, Repr

/-- A frame boundary in progress (R4): the frame that ended, the step that waits for map reads, and the channels
still to be handed their results. -/
structure Boundary where
  frame : Frame
  /-- made by a sync arrival in FREE (R19) -/
  realign : Bool
  job : SolverJob
  todo : List Channel
  deriving DecidableEq, Repr

/-- The Scan Engine's condition: stopped, running a frame, or within a frame boundary (R4, R11, R12). -/
inductive Engine where
  | stopped
  | running (f : Frame)
  | boundary (b : Boundary)
  deriving DecidableEq, Repr

/-- The Scan Engine. -/
structure ScanEngine where
  rate : Rate
  enables : PerChannel Bool
  divisor : Nat
  engine : Engine
  /-- frame timer: µs since the last frame start or boundary moment -/
  elapsed : Nat
  tracker : SyncState
  /-- slip pending -/
  slip : Option Slip
  /-- loss timer: µs since its last start -/
  lossElapsed : Nat
  /-- sync arrivals that came within the boundary in progress, each as µs since the boundary moment (R4) -/
  arrivals : List Nat
  deriving DecidableEq, Repr

/-! ### Channel Tracker (chapter 2) -/

/-- The tracking state of a channel. -/
inductive TrackState where
  | idle
  | search
  | hover
  | contact
  | coast
  deriving DecidableEq, Repr, Inhabited

/-- The identity state of a channel (R34). -/
inductive Identity where
  | unknown
  | reading
  | known
  | failed
  deriving DecidableEq, Repr, Inhabited

/-- The name of a resolved profile (R36). -/
inductive ProfileName where
  | default
  | key (k : Half)
  deriving DecidableEq, Repr

/-- A channel context. -/
structure Context where
  state : TrackState
  /-- previous tracked state: true is CONTACT, false HOVER -/
  prevContact : Bool
  coastCount : Nat
  /-- last peak loops -/
  peakTipX : Nat
  peakTipY : Nat
  peakRingX : Nat
  peakRingY : Nat
  /-- last position -/
  lastX : Nat
  lastY : Nat
  stroke : Half
  seq : Half
  hoverCount : Nat
  ident : Identity
  /-- collected values, oldest first -/
  digits : List (Fin 4)
  attempts : Nat
  code : Half
  lastSeen : ProfileName
  lastRev : BitVec 8
  bridged : Bool
  changed : Bool
  /-- smoothing state S -/
  smooth : Nat
  /-- gap pending -/
  gap : Bool
  deriving DecidableEq, Repr

/-! ### Correction Map (chapter 4) -/

/-- A node word of 39 bits: cx and cy as last written with a valid code, and the bits flipped since, numbered as in
R62. The manual does not give the check bits, so the word is held as what was written and how it differs from it
(log entry 6). -/
structure NodeWord where
  cx : BitVec 16
  cy : BitVec 16
  flips : BitVec 39
  deriving DecidableEq, Repr, Inhabited

/-- The node memory in canonical form: indices strictly rising and below 1024, and no entry equal to what an
unlisted index reads as, (0, 0) with a valid code (R61). -/
abbrev NodeMem := List (Nat × NodeWord)

/-- The map state (R64). -/
inductive MapState where
  | absent
  | ready
  deriving DecidableEq, Repr

/-- The requesters of the Map Arbiter (R65). -/
inductive Requester where
  | solver
  | executor
  | scrubber
  deriving DecidableEq, Repr

/-- A grant in progress at the map port: whose, of which node, and the word as it stood when granted. -/
structure Grant where
  who : Requester
  node : Nat
  word : NodeWord
  deriving DecidableEq, Repr

/-- The outcome of a node read (R63). -/
inductive ReadOutcome where
  | clean
  | corrected
  | uncorrectable
  deriving DecidableEq, Repr

/-- The Map Error Log's entry (R68). -/
structure MapLogEntry where
  node : Nat
  outcome : ReadOutcome
  bit : Nat
  source : Requester
  deriving DecidableEq, Repr

/-- The Correction Map, the scrubber and the Map Arbiter. -/
structure CorrectionMap where
  nodes : NodeMem
  state : MapState
  cursor : Nat
  scrubElapsed : Nat
  solverWaiting : Bool
  execWaiting : Bool
  scrubWaiting : Bool
  execPass : Nat
  scrubPass : Nat
  grant : Option Grant
  log : Option MapLogEntry
  deriving DecidableEq, Repr

/-! ### Profile Table (chapter 5) -/

/-- An entry of the Profile Table (R81). -/
structure ProfileEntry where
  key : Half
  rev : BitVec 8
  profile : Profile
  deriving DecidableEq, Repr

/-- The Profile Table and the default profile (R81, R82). -/
structure Profiles where
  entries : List ProfileEntry
  default : Profile
  defaultRev : BitVec 8
  deriving DecidableEq, Repr

/-! ### Delivery Unit (chapters 6 and 7) -/

/-- The fifteen flags of a stroke record (R98). -/
structure RecFlags where
  gap : Bool := false
  slip : Bool := false
  edgeX : Bool := false
  edgeY : Bool := false
  clip : Bool := false
  mapFault : Bool := false
  noMap : Bool := false
  tiltLimit : Bool := false
  noTilt : Bool := false
  toolPending : Bool := false
  toolUnlisted : Bool := false
  toolFailed : Bool := false
  bridged : Bool := false
  strokeEnd : Bool := false
  profileChanged : Bool := false
  deriving DecidableEq, Repr

/-- A stroke record (R96). -/
structure Record where
  ch : Channel
  state : RecState
  event : RecEvent
  flags : RecFlags
  stroke : Half
  timeTag : Micros
  x : Nat
  y : Nat
  pressure : Nat
  tiltX : Int
  tiltY : Int
  tool : Half
  seq : Half
  phase : BitVec 12
  deriving DecidableEq, Repr

/-- The last record of a capture: channel, sequence number and time tag (R116). -/
structure LastRecord where
  ch : Channel
  seq : Half
  timeTag : Micros
  deriving DecidableEq, Repr

/-- An open capture (R113). -/
structure Capture where
  slot : Fin 32
  buffer : Addr
  capacity : Nat
  mask : PerChannel Bool
  endOnLift : Bool
  endOnProxOut : Bool
  /-- idle timeout applied, ms; 0 is no timer -/
  timeout : Nat
  count : Nat
  last : Option LastRecord
  /-- idle timer: µs of running time since its last start -/
  elapsed : Nat
  deriving DecidableEq, Repr

/-- The Delivery Unit. -/
structure Delivery where
  /-- Holding Queue, oldest first -/
  holding : List Record
  /-- Capture Queue, oldest first -/
  captures : List Capture
  deriving DecidableEq, Repr

/-! ### Post Intake (chapter 8) -/

/-- An in-flight mark: the slot, the table base it was found under, its kind as read and its NOTIFY flag
(R126, R136, R137, R139). -/
structure SlotMark where
  slot : Fin 32
  base : Addr
  kind : Byte
  notify : Bool
  deriving DecidableEq, Repr

/-- Where a sweep stands (R131 to R134). -/
inductive SweepPhase where
  /-- waits until this many oldest buffer entries, the last of them a strip write, have left the buffer -/
  | waitStrips (n : Nat)
  /-- its strip read has been requested -/
  | strip
  /-- its read of this slot's body has been requested; the slots after it are still to visit -/
  | body (slot : Fin 32) (rest : List (Fin 32))
  deriving DecidableEq, Repr

/-- A sweep in progress. -/
structure Sweep where
  base : Addr
  phase : SweepPhase
  /-- the strip words as read, slot 0 first; empty before the strip read completes -/
  snapshot : List (BitVec 32)
  /-- the slots in flight when the strip read completed -/
  held : List (Fin 32)
  /-- INTAKE was written 0 during the sweep (R135) -/
  ending : Bool
  deriving DecidableEq, Repr

/-- The Post Intake. -/
structure Intake where
  /-- sweep timer: µs since its last expiry -/
  elapsed : Nat
  sweep : Option Sweep
  promptPending : Bool
  rotation : Fin 32
  inFlight : List SlotMark
  deriving DecidableEq, Repr

/-! ### Command Executor (chapter 8) -/

/-- One MAP_READ output entry (R199). -/
structure NodeOutput where
  cx : Int
  cy : Int
  outcome : ReadOutcome
  bit : Nat
  deriving DecidableEq, Repr

/-- A MAP_LOAD in progress (R74, R75). -/
structure MapLoadWork where
  start : Nat
  count : Nat
  source : Addr
  final : Bool
  written : Nat
  clamped : Nat
  verify : Nat
  /-- source entries (cx, cy) of the fetched piece not yet written -/
  entries : List (Int × Int)
  deriving DecidableEq, Repr

/-- A MAP_READ in progress (R78). -/
structure MapReadWork where
  start : Nat
  count : Nat
  dest : Addr
  /-- nodes whose output entries have entered the buffer, and of those the CORRECTED and UNCORRECTABLE ones -/
  done : Nat
  corrected : Nat
  uncorrectable : Nat
  /-- entries of the group being gathered -/
  group : List NodeOutput
  deriving DecidableEq, Repr

/-- The Executor's current post and its progress (R141). -/
inductive Work where
  /-- a checked SCAN_SETUP waiting for a frame start (R13) -/
  | scanSetup (p : ScanSetupParams)
  /-- a PROFILE LOAD (isDefault false) or DEFAULT (true) reading its block (R85) -/
  | profile (isDefault : Bool) (key : Half)
  | mapLoad (w : MapLoadWork)
  | mapRead (w : MapReadWork)
  /-- a COUNTERS post waiting for its bulk entry (R185) -/
  | counters (dest : Addr) (clear : Bool)
  /-- a CANCEL of this slot between its two requests: the Delivery Unit has answered 0 (R142, R143) -/
  | cancelSlot (target : Fin 32)
  deriving DecidableEq, Repr

/-- The Executor's current post. -/
structure CurrentPost where
  slot : Fin 32
  work : Work
  deriving DecidableEq, Repr

/-! ### Trace Unit (chapter 9) -/

/-- The five triggers (R145). -/
inductive Trigger where
  | immediate
  | proxIn
  | touch
  | lift
  | pressureAbove
  deriving DecidableEq, Repr

/-- A trace frame (R147). -/
structure TraceFrame where
  timeTag : Micros
  ch : Channel
  state : TrackState
  pre : Bool
  trigger : Bool
  symbol : Symbol
  r : BitVec 12
  tipX : PartResult
  tipY : PartResult
  ringX : PartResult
  ringY : PartResult
  deriving DecidableEq, Repr

/-- A held trace, ARMED or CAPTURING (R146). -/
structure TraceJob where
  slot : Fin 32
  ch : Channel
  trigger : Trigger
  level : Nat
  pre : Nat
  /-- post count applied -/
  post : Nat
  dest : Addr
  /-- false is ARMED, true is CAPTURING -/
  capturing : Bool
  ring : List TraceFrame
  staging : List TraceFrame
  toTake : Nat
  written : Nat
  preWritten : Nat
  trigTag : Option Micros
  /-- the channel went IDLE while CAPTURING (R153) -/
  channelOff : Bool
  deriving DecidableEq, Repr

/-! ### Link Port (chapter 10) -/

/-- The four fault classes (R164). -/
inductive FaultClass where
  | readError
  | readTimeout
  | masterOff
  | linkDown
  deriving DecidableEq, Repr

/-- The four sites (R164). -/
inductive Site where
  | sweep
  | body
  | executor
  | drain
  deriving DecidableEq, Repr

/-- The Fault Record's entry (R167). -/
structure FaultEntry where
  cls : FaultClass
  site : Site
  slot : Option (Fin 32)
  clock : Micros
  deriving DecidableEq, Repr

/-- A read the part asks for: its site, the slot index it reports in a fault, its address and length (R159). -/
structure ReadReq where
  site : Site
  slot : Option (Fin 32)
  addr : Addr
  len : Nat
  deriving DecidableEq, Repr

/-- The read in flight with its read timer in µs (R159). -/
structure ReadInFlight where
  req : ReadReq
  elapsed : Nat
  deriving DecidableEq, Repr

/-- What a write to host memory is, as far as the part acts on it when it enters or leaves the buffer
(R131, R138, R139). -/
inductive WriteRole where
  | record
  | taken (slot : Fin 32)
  | result (slot : Fin 32)
  | done (slot : Fin 32) (notify : Bool)
  | traceFrame
  | bulk
  deriving DecidableEq, Repr

/-- One write to host memory (R161). -/
structure HostWrite where
  role : WriteRole
  addr : Addr
  data : List Byte
  deriving DecidableEq, Repr

/-- What the part has put on the link: a write the link accepted, or an interrupt message. -/
inductive LinkOut where
  | write (w : HostWrite)
  | message (addr : Addr) (data : BitVec 32)
  deriving DecidableEq, Repr

/-- The Link Port. -/
structure LinkPort where
  inputs : LinkInputs
  inFlight : Option ReadInFlight
  /-- reads waiting, the one asked first at the head -/
  waiting : List ReadReq
  /-- Posted Write Buffer, oldest first -/
  buffer : List HostWrite
  /-- the head write is being issued -/
  issued : Bool
  /-- slot write queue, oldest first -/
  slotQueue : List HostWrite
  halted : Bool
  faultRecord : Option FaultEntry
  /-- the MODEL's own field: what has gone out on the link, newest first (log entry 7) -/
  sent : List LinkOut
  /-- the MODEL's own field: how many fault classes were chosen freely so far (log entry 2) -/
  choices : Nat
  deriving DecidableEq, Repr

/-! ### Register Window, clock and counters (chapter 11) -/

/-- The Register Window. -/
structure Registers where
  run : Bool
  intake : Bool
  batch : Bool
  /-- interrupt mask: bits 0..3 for DONE, FAULT, MAPERR, HOLD (CONTROL bits 8..11) -/
  mask : BitVec 4
  /-- EVENT causes: bits 0..3 for DONE, FAULT, MAPERR, HOLD -/
  event : BitVec 4
  /-- interrupt message pending -/
  msgPending : Bool
  tableBase : Addr
  deriving DecidableEq, Repr

/-- The sixteen counters, in the order of R184. -/
structure Counters where
  framesRun : BitVec 32
  produced : PerChannel (BitVec 32)
  delivered : PerChannel (BitVec 32)
  lost : PerChannel (BitVec 32)
  slips : BitVec 32
  mapCorrected : BitVec 32
  mapUncorrectable : BitVec 32
  capFull : BitVec 32
  capLift : BitVec 32
  capProxOut : BitVec 32
  capTimeout : BitVec 32
  capCancelled : BitVec 32
  identFailures : BitVec 32
  deriving DecidableEq, Repr

/-! ### The part, and the machine -/

/-- The whole 3280. -/
structure Device where
  board : Board
  scan : ScanEngine
  chans : PerChannel Context
  map : CorrectionMap
  profiles : Profiles
  delivery : Delivery
  intake : Intake
  exec : Option CurrentPost
  trace : Option TraceJob
  link : LinkPort
  regs : Registers
  clock : Micros
  counters : Counters
  deriving DecidableEq, Repr

/-- The machine: the part, and the commands that wait for it, first in, first out. -/
structure State where
  dev : Device
  pending : List Instr
  deriving DecidableEq, Repr

/-! ### Reset values -/

/-- A channel context after every reset (R38). -/
def Context.initial : Context where
  state := .idle
  prevContact := false
  coastCount := 0
  peakTipX := 0
  peakTipY := 0
  peakRingX := 0
  peakRingY := 0
  lastX := 0
  lastY := 0
  stroke := 0
  seq := 0
  hoverCount := 0
  ident := .unknown
  digits := []
  attempts := 0
  code := 0
  lastSeen := .default
  lastRev := 0
  bridged := false
  changed := false
  smooth := 0
  gap := false

/-- The built-in default profile (R82). -/
def Profile.builtIn : Profile where
  prox := 2000
  off := 40
  on := 60
  rs := [40, 200, 500, 900, 1400, 2000, 2700, 3400, 4095]
  ps := [0, 600, 2000, 4200, 6800, 9500, 12200, 14800, 16383]
  k := 1
  s := 600
  bias := 16

/-- All sixteen counters at 0 (R184). -/
def Counters.zero : Counters where
  framesRun := 0
  produced := { a := 0, b := 0 }
  delivered := { a := 0, b := 0 }
  lost := { a := 0, b := 0 }
  slips := 0
  mapCorrected := 0
  mapUncorrectable := 0
  capFull := 0
  capLift := 0
  capProxOut := 0
  capTimeout := 0
  capCancelled := 0
  identFailures := 0

/-- The Register Window after power-on (R188). -/
def Registers.initial : Registers where
  run := false
  intake := false
  batch := false
  mask := 0
  event := 0
  msgPending := false
  tableBase := 0

/-- The Correction Map after power-on (R80). -/
def CorrectionMap.initial : CorrectionMap where
  nodes := []
  state := .absent
  cursor := 0
  scrubElapsed := 0
  solverWaiting := false
  execWaiting := false
  scrubWaiting := false
  execPass := 0
  scrubPass := 0
  grant := none
  log := none

/-- The Post Intake after every reset (R144). -/
def Intake.initial : Intake where
  elapsed := 0
  sweep := none
  promptPending := false
  rotation := 0
  inFlight := []

/-- The Scan Engine after power-on and link reset (R20). -/
def ScanEngine.initial : ScanEngine where
  rate := .fps480
  enables := { a := true, b := false }
  divisor := 1
  engine := .stopped
  elapsed := 0
  tracker := .free
  slip := none
  lossElapsed := 0
  arrivals := []

/-- The part after power-on with these board values and link inputs (R187); sent and choices are the model's own
and start empty. -/
def Device.initial (board : Board) (inputs : LinkInputs) : Device where
  board := board
  scan := ScanEngine.initial
  chans := { a := Context.initial, b := Context.initial }
  map := CorrectionMap.initial
  profiles := { entries := [], default := Profile.builtIn, defaultRev := 0 }
  delivery := { holding := [], captures := [] }
  intake := Intake.initial
  exec := none
  trace := none
  link :=
    { inputs := inputs, inFlight := none, waiting := [], buffer := [], issued := false, slotQueue := [],
      halted := false, faultRecord := none, sent := [], choices := 0 }
  regs := Registers.initial
  clock := 0
  counters := Counters.zero

/-- The machine right after power-on. DESIGN CHOICE (log entry 4, unsafe): the manual gives no board word and no
link inputs at power-on, since they come from outside; State.reset takes the board word 0 (the smallest grid,
channel B not fitted, rising edge), an ACTIVE link, bus mastering and message interrupts disabled. The POWER_ON
command sets all of them to any value. -/
def State.reset : State where
  dev :=
    Device.initial { nx4 := 4, ny4 := 4, bFitted := false, falling := false }
      { up := true, mastering := false, msiOn := false, msiAddr := 0, msiData := 0 }
  pending := []

end Sys2Proof.Machine
end

