-- ==== Sys2Proof/Machine/Bytes.lean ====
section
/-!
DEFINITION. Little-endian bytes, fields of a byte string, and access per channel and per slot: the helpers every
unit uses.
-/
namespace Sys2Proof.Machine

open Sys2Proof

/-- The n bytes of v, least significant first (R189). -/
def le : Nat → Nat → List Byte
  | 0, _ => []
  | n + 1, v => BitVec.ofNat 8 v :: le n (v / 256)

/-- The number a little-endian byte string holds (R189). -/
def leValue : List Byte → Nat
  | [] => 0
  | b :: bs => b.toNat + 256 * leValue bs

/-- The field of n bytes at an offset, as a number (R189). -/
def field (bytes : List Byte) (offset n : Nat) : Nat :=
  leValue ((bytes.drop offset).take n)

/-- The two's complement bytes of a signed value in n bytes (R189). -/
def leSigned (n : Nat) (v : Int) : List Byte :=
  le n (v % (256 ^ n : Nat)).toNat

/-- A 16-bit field read as a signed value (R189). -/
def signed16 (v : Nat) : Int :=
  (BitVec.ofNat 16 v).toInt

/-- A byte string cut or padded with 0 to n bytes. -/
def padTo (n : Nat) (bytes : List Byte) : List Byte :=
  bytes.take n ++ List.replicate (n - bytes.length) 0

/-- The value of a Bool as a stored number. -/
def bit (b : Bool) : Nat := if b then 1 else 0

/-- The value kept for a channel. -/
def PerChannel.get {α : Type} (p : PerChannel α) : Channel → α
  | .a => p.a
  | .b => p.b

/-- The values with one channel's replaced. -/
def PerChannel.set {α : Type} (p : PerChannel α) (ch : Channel) (v : α) : PerChannel α :=
  match ch with
  | .a => { p with a := v }
  | .b => { p with b := v }

/-- Number of X loops in force (R1). -/
def Board.nx (b : Board) : Nat := 4 * b.nx4

/-- Number of Y loops in force (R1). -/
def Board.ny (b : Board) : Nat := 4 * b.ny4

/-- Node columns (R61). -/
def Board.nodesX (b : Board) : Nat := b.nx4 + 1

/-- Node rows (R61). -/
def Board.nodesY (b : Board) : Nat := b.ny4 + 1

/-- The number of nodes in use (R61). -/
def Board.nodeCount (b : Board) : Nat := b.nodesX * b.nodesY

/-- v limited to lo..hi. -/
def clampNat (v lo hi : Nat) : Nat := max lo (min v hi)

/-- v limited to lo..hi. -/
def clampInt (v lo hi : Int) : Int := max lo (min v hi)

/-- The board word's fields, limited as R1 gives, at the bits R186 gives. -/
def Board.ofWord (w : BitVec 16) : Board where
  nx4 := clampNat (w.extractLsb' 0 6).toNat 4 32
  ny4 := clampNat (w.extractLsb' 6 5).toNat 4 18
  bFitted := w.getLsbD 11
  falling := w.getLsbD 12

/-- The number a channel is stored as (R193, R196, R197). -/
def channelCode : Channel → Nat
  | .a => 0
  | .b => 1

end Sys2Proof.Machine
end

