-- ==== Sys2Proof/Machine/Flags.lean ====
section
/-!
DEFINITION. The flag words and the byte images the part writes to host memory: record flags, stroke records,
trace frames, result areas, MAP_READ entries and the counter block (chapter 12).
-/
namespace Sys2Proof.Machine

open Sys2Proof

/-- The flags word of a record, bits as R196 numbers them. -/
def RecFlags.word (f : RecFlags) : Nat :=
  bit f.gap + 2 * bit f.slip + 4 * bit f.edgeX + 8 * bit f.edgeY + 16 * bit f.clip + 32 * bit f.mapFault
    + 64 * bit f.noMap + 128 * bit f.tiltLimit + 256 * bit f.noTilt + 512 * bit f.toolPending
    + 1024 * bit f.toolUnlisted + 2048 * bit f.toolFailed + 4096 * bit f.bridged + 8192 * bit f.strokeEnd
    + 16384 * bit f.profileChanged

/-- The number a record state is stored as (R196). -/
def RecState.code : RecState → Nat
  | .none => 0
  | .hover => 1
  | .contact => 2

/-- The number a record event is stored as (R196). -/
def RecEvent.code : RecEvent → Nat
  | .none => 0
  | .proxIn => 1
  | .touch => 2
  | .lift => 3
  | .proxOut => 4

/-- The 32-byte image of a record (R196). -/
def Record.image (r : Record) : List Byte :=
  le 1 (channelCode r.ch) ++ le 1 r.state.code ++ le 1 r.event.code ++ le 1 0 ++ le 2 r.flags.word ++ le 2 r.stroke.toNat
    ++ le 4 r.timeTag.toNat ++ le 2 r.x ++ le 2 r.y ++ le 2 r.pressure ++ leSigned 2 r.tiltX ++ leSigned 2 r.tiltY
    ++ le 2 r.tool.toNat ++ le 2 r.seq.toNat ++ le 2 r.phase.toNat ++ le 4 0

/-- A plain hover record: state HOVER and event NONE (R97). -/
def Record.plainHover (r : Record) : Bool :=
  r.state == .hover && r.event == .none

/-- The number a symbol is stored as (R197). -/
def symbolCode : Symbol → Nat
  | .digit d => d.val
  | .mark => 4
  | .none => 5

/-- The number a tracking state is stored as in a trace frame (R197). -/
def TrackState.code : TrackState → Nat
  | .idle => 0
  | .search => 1
  | .hover => 2
  | .contact => 3
  | .coast => 4

/-- The 18-byte amplitude group of a part (R197). -/
def ampGroup (p : PartResult) : List Byte :=
  padTo 18 (p.amps.flatMap fun a => le 2 a.toNat)

/-- The 96-byte image of a trace frame (R197). -/
def TraceFrame.image (f : TraceFrame) : List Byte :=
  le 4 f.timeTag.toNat ++ le 1 (channelCode f.ch) ++ le 1 f.state.code ++ le 1 (bit f.pre + 2 * bit f.trigger)
    ++ le 1 (symbolCode f.symbol) ++ le 2 f.r.toNat ++ le 1 f.tipX.origin ++ le 1 f.tipY.origin ++ le 1 f.ringX.origin
    ++ le 1 f.ringY.origin ++ le 10 0 ++ ampGroup f.tipX ++ ampGroup f.tipY ++ ampGroup f.ringX ++ ampGroup f.ringY

/-- The status of a completed post (R193). -/
inductive Status where
  | ok
  | rejected
  | cancelled
  | fault
  deriving DecidableEq, Repr

/-- The number a status is stored as (R193). -/
def Status.code : Status → Nat
  | .ok => 1
  | .rejected => 2
  | .cancelled => 3
  | .fault => 4

/-- The detail of a completed post (R137, R152, R193). -/
inductive Detail where
  | none
  | unknownKind
  | align
  | range
  | busy
  | tableFull
  | notFound
  | badProfile
  | notFitted
  | overrun
  | channelOff
  deriving DecidableEq, Repr

/-- The code of a detail (R137, R193). -/
def Detail.code : Detail → Nat
  | .none => 0
  | .unknownKind => 10
  | .align => 11
  | .range => 12
  | .busy => 13
  | .tableFull => 14
  | .notFound => 15
  | .badProfile => 16
  | .notFitted => 17
  | .overrun => 18
  | .channelOff => 19

/-- The 24 bytes of a result write: status, detail, two bytes not used, then the result fields of the kind from
body offset 44 on, padded with 0 (R190, R193). -/
def resultImage (st : Status) (dt : Detail) (fields : List Byte) : List Byte :=
  le 1 st.code ++ le 1 dt.code ++ le 2 0 ++ padTo 20 fields

/-- The 4 bytes of a TAKEN (2) or DONE (3) strip write (R190, R192). -/
def stripImage (state : Nat) (kind : Byte) : List Byte :=
  le 1 state ++ [kind] ++ le 2 0

/-- The number a node outcome is stored as (R199). -/
def ReadOutcome.code : ReadOutcome → Nat
  | .clean => 0
  | .corrected => 1
  | .uncorrectable => 2

/-- The 8-byte MAP_READ output entry (R199). -/
def NodeOutput.image (n : NodeOutput) : List Byte :=
  leSigned 2 n.cx ++ leSigned 2 n.cy ++ le 1 n.outcome.code ++ le 1 n.bit ++ le 2 0

/-- The sixteen counters in the order of R184. -/
def Counters.list (c : Counters) : List (BitVec 32) :=
  [c.framesRun, c.produced.a, c.produced.b, c.delivered.a, c.delivered.b, c.lost.a, c.lost.b, c.slips,
    c.mapCorrected, c.mapUncorrectable, c.capFull, c.capLift, c.capProxOut, c.capTimeout, c.capCancelled,
    c.identFailures]

/-- The 64-byte counter block (R200). -/
def Counters.image (c : Counters) : List Byte :=
  c.list.flatMap fun v => le 4 v.toNat

end Sys2Proof.Machine
end

