-- ==== Sys2Proof/Machine/Operands.lean ====
section
/-!
DEFINITION. The structures the part reads from host memory: strip words, post bodies, profile blocks and map
source entries (chapter 12), and the parameter values a post's fields stand for.
-/
namespace Sys2Proof.Machine

open Sys2Proof

/-- The 32-bit words of a byte string, in order (R192). -/
def words32 : Nat → List Byte → List (BitVec 32)
  | 0, _ => []
  | n + 1, bytes => BitVec.ofNat 32 (field bytes 0 4) :: words32 n (bytes.drop 4)

/-- A strip word's state byte (R192). -/
def stripState (w : BitVec 32) : Nat := (w.extractLsb' 0 8).toNat

/-- A strip word's kind byte (R192). -/
def stripKind (w : BitVec 32) : Byte := w.extractLsb' 8 8

/-- The kind byte of a post (R192). -/
def postKind : Post → Byte
  | .capture _ => 1
  | .profile _ => 2
  | .mapLoad _ => 3
  | .mapRead _ => 4
  | .scanSetup _ => 5
  | .trace _ => 6
  | .counters _ => 7
  | .cancel _ => 8
  | .clockSet _ => 9

def mapParamsOf (b : List Byte) : MapParams where
  start := BitVec.ofNat 16 (field b 4 2)
  count := BitVec.ofNat 16 (field b 6 2)
  flags := BitVec.ofNat 8 (field b 8 1)
  addr := BitVec.ofNat 64 (field b 12 8)

/-- The post a body of this kind holds, its parameters at the offsets of R194; none for a kind outside 1..9. -/
def parseBody (kind : Byte) (b : List Byte) : Option Post :=
  match kind.toNat with
  | 1 => some (.capture
      { buffer := BitVec.ofNat 64 (field b 4 8), capacity := BitVec.ofNat 32 (field b 12 4),
        mask := BitVec.ofNat 8 (field b 16 1), endFlags := BitVec.ofNat 8 (field b 17 1),
        timeout := BitVec.ofNat 32 (field b 20 4) })
  | 2 => some (.profile
      { op := BitVec.ofNat 8 (field b 4 1), key := BitVec.ofNat 16 (field b 8 2),
        source := BitVec.ofNat 64 (field b 12 8) })
  | 3 => some (.mapLoad (mapParamsOf b))
  | 4 => some (.mapRead (mapParamsOf b))
  | 5 => some (.scanSetup
      { rate := BitVec.ofNat 8 (field b 4 1), enables := BitVec.ofNat 8 (field b 5 1),
        divisor := BitVec.ofNat 8 (field b 6 1) })
  | 6 => some (.trace
      { channel := BitVec.ofNat 8 (field b 4 1), trigger := BitVec.ofNat 8 (field b 5 1),
        pre := BitVec.ofNat 8 (field b 6 1), post := BitVec.ofNat 16 (field b 8 2),
        level := BitVec.ofNat 16 (field b 10 2), capacity := BitVec.ofNat 32 (field b 12 4),
        dest := BitVec.ofNat 64 (field b 16 8) })
  | 7 => some (.counters
      { dest := BitVec.ofNat 64 (field b 4 8), flags := BitVec.ofNat 8 (field b 12 1) })
  | 8 => some (.cancel
      { target := BitVec.ofNat 8 (field b 4 1), mask := BitVec.ofNat 8 (field b 5 1),
        slot := BitVec.ofNat 8 (field b 6 1) })
  | 9 => some (.clockSet (BitVec.ofNat 32 (field b 4 4)))
  | _ => none

/-- The kind byte stored in a body (R193). -/
def bodyKind (b : List Byte) : Byte := BitVec.ofNat 8 (field b 0 1)

/-- The NOTIFY flag stored in a body (R193). -/
def bodyNotify (b : List Byte) : Bool := (BitVec.ofNat 8 (field b 1 1)).getLsbD 0

/-- n 16-bit fields from an offset on. -/
def halves (b : List Byte) (offset : Nat) : Nat → List Nat
  | 0 => []
  | n + 1 => field b offset 2 :: halves b (offset + 2) n

/-- The values of a profile block (R198). -/
def parseProfile (b : List Byte) : Profile where
  prox := field b 0 2
  off := field b 2 2
  on := field b 4 2
  rs := halves b 6 9
  ps := halves b 24 9
  k := field b 42 1
  s := field b 44 2
  bias := field b 46 1

/-- The index, counted from n, of the first r point that is not greater than the one before it and at most 4095
(R86). -/
def badR (prev : Nat) : List Nat → Nat → Option Nat
  | [], _ => none
  | r :: rs, n => if prev < r ∧ r ≤ 4095 then badR r rs (n + 1) else some n

/-- The index, counted from n, of the first p point that is not at least the one before it and at most 16383
(R86). -/
def badP (prev : Nat) : List Nat → Nat → Option Nat
  | [], _ => none
  | p :: ps, n => if prev ≤ p ∧ p ≤ 16383 then badP p ps (n + 1) else some n

/-- The number of the first field of a profile that fails its check, in the order of R86; none when all pass. -/
def Profile.firstBad (p : Profile) : Option Nat :=
  if ¬(64 ≤ p.prox ∧ p.prox ≤ 60000) then some 1
  else if ¬(1 ≤ p.off ∧ p.off ≤ 4094) then some 2
  else if ¬(p.off + 1 ≤ p.on ∧ p.on ≤ 4095) then some 3
  else if ¬(p.rs.headD 0 ≤ 4095) then some 4
  else match badR (p.rs.headD 0) p.rs.tail 5 with
  | some n => some n
  | none =>
    if ¬(p.ps.headD 0 ≤ 16383) then some 13
    else match badP (p.ps.headD 0) p.ps.tail 14 with
    | some n => some n
    | none =>
      if ¬(p.k ≤ 3) then some 22
      else if ¬(64 ≤ p.s ∧ p.s ≤ 2048) then some 23
      else if ¬(p.bias ≤ 64) then some 24
      else none

/-- The (cx, cy) entries of a map source piece of n entries (R191, R199). -/
def sourceEntries (b : List Byte) : Nat → List (Int × Int)
  | 0 => []
  | n + 1 => (signed16 (field b 0 2), signed16 (field b 2 2)) :: sourceEntries (b.drop 8) n

/-- A stored channel mask: 1 A, 2 B, 3 both; no other value names a channel (R194, R112, R142). -/
def parseMask (m : Byte) : Option (PerChannel Bool) :=
  match m.toNat with
  | 1 => some { a := true, b := false }
  | 2 => some { a := false, b := true }
  | 3 => some { a := true, b := true }
  | _ => none

/-- A stored channel: 0 A, 1 B (R194). -/
def parseChannel (c : Byte) : Option Channel :=
  match c.toNat with
  | 0 => some .a
  | 1 => some .b
  | _ => none

/-- A stored trigger (R194). -/
def parseTrigger (t : Byte) : Option Trigger :=
  match t.toNat with
  | 0 => some .immediate
  | 1 => some .proxIn
  | 2 => some .touch
  | 3 => some .lift
  | 4 => some .pressureAbove
  | _ => none

/-- A frame rate code (R10). -/
def parseRate (c : Byte) : Option Rate :=
  match c.toNat with
  | 0 => some .fps240
  | 1 => some .fps360
  | 2 => some .fps480
  | _ => none

/-- The nominal period of a rate in µs (R10). -/
def Rate.period : Rate → Nat
  | .fps240 => 4167
  | .fps360 => 2778
  | .fps480 => 2083

end Sys2Proof.Machine
end

