-- ==== Sys2Proof/Machine/Ops.lean ====
section
/-!
DEFINITION. Operations shared by the units: EVENT and the interrupt, the counters, channel contexts, slot writes and
in-flight marks, and the node memory.
-/
namespace Sys2Proof.Machine

open Sys2Proof

/-! ### A command's outcome -/

/-- The machine with a change of the part; the queue of commands stays. -/
def onDevice (f : Device → Device) (s : State) : State := { s with dev := f s.dev }

/-- A command whose effect on the part is f: the next state. -/
def effect (f : Device → Device) (s : State) : Host.Outcome State Fault Refusal := .next (onDevice f s)

/-! ### EVENT and the interrupt (R179, R180) -/

/-- The four causes (R174). -/
inductive Cause where
  | done
  | fault
  | mapErr
  | hold
  deriving DecidableEq, Repr

/-- The bit of a cause in EVENT and in the mask (R174). -/
def Cause.bits : Cause → BitVec 4
  | .done => 1
  | .fault => 2
  | .mapErr => 4
  | .hold => 8

/-- The interrupt condition: a set cause whose enable is 1 (R180). -/
def Registers.condition (r : Registers) : Bool := (r.event &&& r.mask) != 0

/-- The line interrupt is asserted (R180). -/
def Device.line (d : Device) : Bool := !d.link.inputs.msiOn && d.regs.condition

/-- An access of the part can be issued: link ACTIVE and bus mastering enabled (R158). -/
def LinkPort.canIssue (l : LinkPort) : Bool := l.inputs.up && l.inputs.mastering

/-- Puts an interrupt message on the link, outside the Posted Write Buffer (R180). -/
def sendMessage (d : Device) : Device :=
  { d with
    link := { d.link with sent := .message d.link.inputs.msiAddr d.link.inputs.msiData :: d.link.sent }
    regs := { d.regs with msgPending := false } }

/-- A message that is due is sent, or kept pending while the link is DOWN or mastering is off (R180). -/
def messageDue (d : Device) : Device :=
  if d.link.canIssue then sendMessage d else { d with regs := { d.regs with msgPending := true } }

/-- The test of the interrupt condition after EVENT or the mask changed; held is the condition before (R180). -/
def testInterrupt (held : Bool) (d : Device) : Device :=
  if d.regs.condition then
    if held then d else if d.link.inputs.msiOn then messageDue d else d
  else { d with regs := { d.regs with msgPending := false } }

/-- A pending message is sent when the link and mastering allow it, message interrupts are enabled and the
condition still holds (R180, log entry 8). -/
def sendPending (d : Device) : Device :=
  if d.regs.msgPending && d.regs.condition && d.link.inputs.msiOn && d.link.canIssue then sendMessage d else d

/-- EVENT and the mask take new values in one event (R179, R180). -/
def setEventMask (event mask : BitVec 4) (d : Device) : Device :=
  testInterrupt d.regs.condition { d with regs := { d.regs with event := event, mask := mask } }

/-- A cause is set in EVENT (R179). -/
def setCause (c : Cause) (d : Device) : Device :=
  setEventMask (d.regs.event ||| c.bits) d.regs.mask d

/-! ### Counters (R184) -/

/-- The five reasons a capture completes for (R120). -/
inductive Reason where
  | full
  | lift
  | proxOut
  | timeout
  | cancelled
  deriving DecidableEq, Repr

/-- The number a reason is stored as (R195). -/
def Reason.code : Reason → Nat
  | .full => 1
  | .lift => 2
  | .proxOut => 3
  | .timeout => 4
  | .cancelled => 5

/-- The channel's value rises by one, wrapping. -/
def PerChannel.bump (p : PerChannel (BitVec 32)) (ch : Channel) : PerChannel (BitVec 32) :=
  p.set ch (p.get ch + 1)

def countProduced (ch : Channel) (d : Device) : Device :=
  { d with counters := { d.counters with produced := d.counters.produced.bump ch } }

def countDelivered (ch : Channel) (d : Device) : Device :=
  { d with counters := { d.counters with delivered := d.counters.delivered.bump ch } }

def countLost (ch : Channel) (d : Device) : Device :=
  { d with counters := { d.counters with lost := d.counters.lost.bump ch } }

def countFrame (d : Device) : Device :=
  { d with counters := { d.counters with framesRun := d.counters.framesRun + 1 } }

def countSlip (d : Device) : Device :=
  { d with counters := { d.counters with slips := d.counters.slips + 1 } }

def countIdentFailure (d : Device) : Device :=
  { d with counters := { d.counters with identFailures := d.counters.identFailures + 1 } }

/-- The map counter of an outcome rises; CLEAN is not counted (R67). -/
def countOutcome (o : ReadOutcome) (d : Device) : Device :=
  match o with
  | .clean => d
  | .corrected => { d with counters := { d.counters with mapCorrected := d.counters.mapCorrected + 1 } }
  | .uncorrectable => { d with counters := { d.counters with mapUncorrectable := d.counters.mapUncorrectable + 1 } }

/-- The completion counter of a reason rises (R120). -/
def Counters.bumpReason (c : Counters) : Reason → Counters
  | .full => { c with capFull := c.capFull + 1 }
  | .lift => { c with capLift := c.capLift + 1 }
  | .proxOut => { c with capProxOut := c.capProxOut + 1 }
  | .timeout => { c with capTimeout := c.capTimeout + 1 }
  | .cancelled => { c with capCancelled := c.capCancelled + 1 }

/-! ### Channel contexts -/

/-- A channel's context. -/
def Device.ctx (d : Device) (ch : Channel) : Context := d.chans.get ch

/-- The part with a channel's context replaced. -/
def Device.setCtx (d : Device) (ch : Channel) (c : Context) : Device :=
  { d with chans := d.chans.set ch c }

/-! ### In-flight marks and slot writes (R126, R136 to R138, R190) -/

/-- The mark of a slot. A slot without one is given the present table base, kind 0 and NOTIFY clear; no unit holds
work for such a slot in a run from reset. -/
def Device.markOf (d : Device) (slot : Fin 32) : SlotMark :=
  (d.intake.inFlight.find? (fun m => m.slot == slot)).getD
    { slot := slot, base := d.regs.tableBase, kind := 0, notify := false }

/-- A slot is in flight (R127). -/
def Device.isInFlight (d : Device) (slot : Fin 32) : Bool :=
  d.intake.inFlight.any (fun m => m.slot == slot)

/-- Sets the in-flight mark of a slot. -/
def setMark (m : SlotMark) (d : Device) : Device :=
  { d with intake := { d.intake with inFlight := m :: d.intake.inFlight.filter (fun x => x.slot != m.slot) } }

/-- Clears the in-flight mark of a slot (R138). -/
def clearMark (slot : Fin 32) (d : Device) : Device :=
  { d with intake := { d.intake with inFlight := d.intake.inFlight.filter (fun x => x.slot != slot) } }

/-- The address of a slot's strip word (R126). -/
def stripAddr (base : Addr) (slot : Fin 32) : Addr := base + BitVec.ofNat 64 (4 * slot.val)

/-- The address of a slot's body (R126). -/
def bodyAddr (base : Addr) (slot : Fin 32) : Addr := base + BitVec.ofNat 64 (128 + 64 * slot.val)

/-- The address of a slot's result area (R190). -/
def resultAddr (base : Addr) (slot : Fin 32) : Addr := bodyAddr base slot + 40

/-- The TAKEN write of a slot (R136, R190). -/
def takenWrite (m : SlotMark) : HostWrite where
  role := .taken m.slot
  addr := stripAddr m.base m.slot
  data := stripImage 2 m.kind

/-- The result write of a slot (R190). -/
def resultWrite (m : SlotMark) (st : Status) (dt : Detail) (fields : List Byte) : HostWrite where
  role := .result m.slot
  addr := resultAddr m.base m.slot
  data := resultImage st dt fields

/-- The DONE write of a slot (R190). -/
def doneWrite (m : SlotMark) : HostWrite where
  role := .done m.slot m.notify
  addr := stripAddr m.base m.slot
  data := stripImage 3 m.kind

/-- Writes are handed to the Link Port as slot writes, in this order (R162). -/
def handOver (ws : List HostWrite) (d : Device) : Device :=
  { d with link := { d.link with slotQueue := d.link.slotQueue ++ ws } }

/-- The completion of a slot: its result write, then its DONE write (R138). -/
def completeSlot (slot : Fin 32) (st : Status) (dt : Detail) (fields : List Byte) (d : Device) : Device :=
  handOver [resultWrite (d.markOf slot) st dt fields, doneWrite (d.markOf slot)] d

/-- The Posted Write Buffer has a free entry: it never holds more than 4 (R161). -/
def LinkPort.free (l : LinkPort) : Bool := decide (l.buffer.length < 4)

/-- A write enters the Posted Write Buffer whole (R161). -/
def enterBuffer (w : HostWrite) (d : Device) : Device :=
  { d with link := { d.link with buffer := d.link.buffer ++ [w] } }

/-! ### Node memory (R61 to R63) -/

/-- What an unlisted node reads as: (0, 0) with a valid check code (R61). -/
def NodeWord.blank : NodeWord where
  cx := 0
  cy := 0
  flips := 0

/-- A node write's word: cx and cy with a check code computed afresh (R62). -/
def NodeWord.fresh (cx cy : BitVec 16) : NodeWord where
  cx := cx
  cy := cy
  flips := 0

/-- The word stored at a node. -/
def readNode : NodeMem → Nat → NodeWord
  | [], _ => NodeWord.blank
  | (j, w) :: rest, i => if j = i then w else readNode rest i

/-- The memory with the word of a node replaced, in canonical form. -/
def writeNode : NodeMem → Nat → NodeWord → NodeMem
  | [], i, w => if w = NodeWord.blank then [] else [(i, w)]
  | (j, v) :: rest, i, w =>
    if i < j then (if w = NodeWord.blank then (j, v) :: rest else (i, w) :: (j, v) :: rest)
    else if i = j then (if w = NodeWord.blank then rest else (i, w) :: rest)
    else (j, v) :: writeNode rest i w

/-- The memory with the word of a node replaced; there is no word at 1024 or above (R61). -/
def storeNode (m : NodeMem) (i : Nat) (w : NodeWord) : NodeMem := if i < 1024 then writeNode m i w else m

/-- Every index is at least lo, they rise strictly, and no entry is blank. -/
def wfFrom : Nat → NodeMem → Bool
  | _, [] => true
  | lo, (j, w) :: rest => decide (lo ≤ j) && decide (w ≠ NodeWord.blank) && wfFrom (j + 1) rest

/-- The canonical form of the node memory: indices strictly rising and below 1024, no blank entry. -/
def NodeMem.wf (m : NodeMem) : Bool := wfFrom 0 m && m.all (fun e => decide (e.1 < 1024))

/-- The bits stored for cx and cy: what was written, with the flips of bits 0..31 (R62). -/
def NodeWord.stored (w : NodeWord) : BitVec 32 := (w.cy ++ w.cx) ^^^ w.flips.extractLsb' 0 32

/-- The number of flipped bits. -/
def flipCount (f : BitVec 39) : Nat := ((List.range 39).filter (fun i => f.getLsbD i)).length

/-- The position of the lowest flipped bit. -/
def flipAt (f : BitVec 39) : Nat := ((List.range 39).find? (fun i => f.getLsbD i)).getD 0

/-- What the check code says of a word (R62, R63): CLEAN with no flip, the bit with one, a disagreement with two,
and free with three or more. -/
def NodeWord.verdict (w : NodeWord) : CodeVerdict :=
  match flipCount w.flips with
  | 0 => .clean
  | 1 => .corrected (Fin.ofNat 39 (flipAt w.flips))
  | 2 => .uncorrectable
  | _ => Config.manyFlips (w.cy ++ w.cx) w.flips

/-- A read of a node: its outcome, cx and cy as the read yields them before the limit of R63, and the bit
position. -/
structure NodeRead where
  outcome : ReadOutcome
  cx : BitVec 16
  cy : BitVec 16
  bit : Nat
  deriving DecidableEq, Repr

/-- The outcome table of R63, before the limit. -/
def NodeWord.check (w : NodeWord) : NodeRead :=
  match w.verdict with
  | .clean =>
    { outcome := .clean, cx := w.stored.extractLsb' 0 16, cy := w.stored.extractLsb' 16 16, bit := 0 }
  | .corrected b =>
    let v := w.stored ^^^ (BitVec.twoPow 39 b.val).extractLsb' 0 32
    { outcome := .corrected, cx := v.extractLsb' 0 16, cy := v.extractLsb' 16 16, bit := b.val }
  | .uncorrectable =>
    { outcome := .uncorrectable, cx := w.stored.extractLsb' 0 16, cy := w.stored.extractLsb' 16 16, bit := 127 }

/-- A correction part limited to −1024..1023 as it is handed out or written (R63, R75). -/
def limitPart (v : Int) : Int := clampInt v (-1024) 1023

/-- The output entry of a read: its value after the limit of R63 (R78, R199). -/
def NodeRead.output (r : NodeRead) : NodeOutput where
  cx := limitPart r.cx.toInt
  cy := limitPart r.cy.toInt
  outcome := r.outcome
  bit := r.bit

/-- What the Solver uses of a read: an UNCORRECTABLE node counts as (0, 0) (R52). -/
def NodeRead.correction (r : NodeRead) : Correction :=
  match r.outcome with
  | .uncorrectable => { cx := 0, cy := 0, bad := true }
  | _ => { cx := limitPart r.cx.toInt, cy := limitPart r.cy.toInt, bad := false }

/-- An outcome offered to the Map Error Log: an empty log takes it and MAPERR is set (R68). -/
def offerLog (node : Nat) (r : NodeRead) (source : Requester) (d : Device) : Device :=
  if r.outcome = .clean then d
  else match d.map.log with
  | some _ => d
  | none =>
    setCause .mapErr
      { d with map := { d.map with log := some { node := node, outcome := r.outcome, bit := r.bit, source := source } } }

/-- A read's outcome is counted, and offered to the log (R67). -/
def noteRead (node : Nat) (r : NodeRead) (source : Requester) (d : Device) : Device :=
  offerLog node r source (countOutcome r.outcome d)

end Sys2Proof.Machine
end

