-- ==== Sys2Proof/Machine/Delivery.lean ====
section
/-!
DEFINITION. The Delivery Unit (chapters 6 and 7): placement of records, completion of captures, the Holding Queue and
its drain.
-/
namespace Sys2Proof.Machine

open Sys2Proof

/-! ### Captures (R115 to R121) -/

/-- A capture takes a channel's records. -/
def Capture.takes (c : Capture) (ch : Channel) : Bool := c.mask.get ch

/-- The first open capture in queue order whose mask includes the channel (R99, R115). -/
def firstTaking (caps : List Capture) (ch : Channel) : Option Capture := caps.find? (fun c => c.takes ch)

/-- The capture after a placement: count, last record and idle timer (R116). -/
def Capture.receive (c : Capture) (r : Record) : Capture :=
  { c with count := c.count + 1, last := some { ch := r.ch, seq := r.seq, timeTag := r.timeTag }, elapsed := 0 }

/-- The first completion condition that holds after a placement (R117). -/
def Capture.endReason (c : Capture) (r : Record) : Option Reason :=
  if c.endOnProxOut && r.event == .proxOut then some .proxOut
  else if c.endOnLift && r.flags.strokeEnd then some .lift
  else if c.count = c.capacity then some .full
  else none

/-- The result fields of a completed capture, from body offset 44 (R121, R195). -/
def Capture.fields (c : Capture) (reason : Reason) : List Byte :=
  match c.last with
  | some l =>
    le 1 reason.code ++ le 1 (channelCode l.ch) ++ le 2 c.count ++ le 2 c.capacity ++ le 2 l.seq.toNat
      ++ le 4 l.timeTag.toNat
  | none => le 1 reason.code ++ le 1 255 ++ le 2 c.count ++ le 2 c.capacity ++ le 2 0 ++ le 4 0

/-- The status of a capture's completion (R121). -/
def Reason.status : Reason → Status
  | .cancelled => .cancelled
  | _ => .ok

/-- Replaces the capture of a slot. -/
def putCapture (c : Capture) (d : Device) : Device :=
  { d with delivery := { d.delivery with captures := d.delivery.captures.map fun x => if x.slot = c.slot then c else x } }

/-- A capture completes for a reason, in one event (R120): it leaves the queue, its counter rises, its result and DONE
writes are handed over. -/
def completeCapture (c : Capture) (reason : Reason) (d : Device) : Device :=
  completeSlot c.slot reason.status .none (c.fields reason)
    { d with
      delivery := { d.delivery with captures := d.delivery.captures.filter fun x => x.slot != c.slot }
      counters := d.counters.bumpReason reason }

/-! ### Placement (R99, R100) -/

/-- The write of a record into a capture: 32 bytes at the buffer address plus 32 times the count (R100). DESIGN CHOICE (log
entry 31): an address past the top of the 64-bit space wraps. -/
def recordWrite (c : Capture) (r : Record) : HostWrite where
  role := .record
  addr := c.buffer + BitVec.ofNat 64 (32 * c.count)
  data := r.image

/-- The test of R117 on a capture that has just received a record. -/
def settleCapture (c : Capture) (r : Record) (d : Device) : Device :=
  match c.endReason r with
  | some reason => completeCapture c reason d
  | none => d

/-- A record is placed in a capture (R100, R116, R117). -/
def placeIn (c : Capture) (r : Record) (d : Device) : Device :=
  settleCapture (c.receive r) r (putCapture (c.receive r) (countDelivered r.ch (enterBuffer (recordWrite c r) d)))

/-! ### The Holding Queue (R101 to R105) -/

/-- The queue around its oldest plain hover record (R103). -/
def splitPlain : List Record → Option (List Record × Record × List Record)
  | [] => none
  | r :: rs =>
    if r.plainHover then some ([], r, rs)
    else match splitPlain rs with
    | some (before, e, after) => some (r :: before, e, after)
    | none => none

/-- The record evicted from a queue, with what stands before and after it (R103). -/
def chooseVictim (q : List Record) : Option (List Record × Record × List Record) :=
  match splitPlain q with
  | some s => some s
  | none => match q with
    | [] => none
    | r :: rs => some ([], r, rs)

/-- A record marked GAP (R104). -/
def Record.withGap (r : Record) : Record := { r with flags := { r.flags with gap := true } }

/-- GAP set on the oldest record of the channel; whether there was one (R104). -/
def markOldest (ch : Channel) : List Record → List Record × Bool
  | [] => ([], false)
  | r :: rs =>
    if r.ch = ch then (r.withGap :: rs, true)
    else let m := markOldest ch rs; (r :: m.1, m.2)

/-- The gap pending of a channel takes a value. -/
def setGap (ch : Channel) (v : Bool) (d : Device) : Device :=
  d.setCtx ch { d.ctx ch with gap := v }

/-- The Holding Queue takes a value. -/
def setHolding (q : List Record) (d : Device) : Device :=
  { d with delivery := { d.delivery with holding := q } }

/-- One held record is evicted to make room (R103, R104, R105). -/
def evict (d : Device) : Device :=
  match chooseVictim d.delivery.holding with
  | none => d
  | some (before, e, after) =>
    let m := markOldest e.ch after
    let d := countLost e.ch (setHolding (before ++ m.1) d)
    setCause .hold (if m.2 then d else setGap e.ch true d)

/-- The record with the gap pending of its channel applied (R99, R104). -/
def gapApplied (r : Record) (d : Device) : Record := if (d.ctx r.ch).gap then r.withGap else r

/-- A record joins the newest end of the queue, the gap pending applied (R99, R101, R105). -/
def joinHolding (r : Record) (d : Device) : Device :=
  let d' := setGap r.ch false (setHolding (d.delivery.holding ++ [gapApplied r d]) d)
  if d.delivery.holding.length = 47 then setCause .hold d' else d'

/-- A record is appended to the Holding Queue; a full queue discards it or evicts another (R101 to R103). -/
def appendHolding (r : Record) (d : Device) : Device :=
  if d.delivery.holding.length < 64 then joinHolding r d
  else if r.plainHover then setCause .hold (setGap r.ch true (countLost r.ch d))
  else joinHolding r (evict d)

/-- The placement decision on a produced record, one event at the Delivery Unit (R99). -/
def deliver (r : Record) (d : Device) : Device :=
  match firstTaking d.delivery.captures r.ch with
  | some c =>
    if !d.link.halted && !(d.delivery.holding.any fun x => x.ch == r.ch) && d.link.free then
      placeIn c (gapApplied r d) (setGap r.ch false d)
    else appendHolding r d
  | none => appendHolding r d

/-! ### Drain (R106) -/

/-- One walk over the held records, oldest first, with the blocked mark of each channel: the records that stay, and the
part after the placements. -/
def drainGo : List Record → PerChannel Bool → Device → List Record × Device
  | [], _, d => ([], d)
  | r :: rest, blocked, d =>
    if blocked.get r.ch then
      let w := drainGo rest blocked d
      (r :: w.1, w.2)
    else match firstTaking d.delivery.captures r.ch with
    | none =>
      let w := drainGo rest (blocked.set r.ch true) d
      (r :: w.1, w.2)
    | some c =>
      if d.link.free then drainGo rest blocked (placeIn c r d)
      else (r :: rest, d)

/-- A drain walk; none runs while HALTED (R106, R109). -/
def drainWalk (d : Device) : Device :=
  if d.link.halted then d
  else
    let w := drainGo d.delivery.holding { a := false, b := false } d
    setHolding w.1 w.2

end Sys2Proof.Machine
end

