-- ==== Sys2Proof/Machine/Solver.lean ====
section
/-!
DEFINITION. The Stroke Solver (chapter 3): the arithmetic of a stroke record, stage by stage. It keeps nothing.
-/
namespace Sys2Proof.Machine

open Sys2Proof

/-! ### Stage 1: axis interpolation (R41 to R45) -/

/-- Walks amplitudes from index i on, with the best index and amplitude so far. -/
def peakGo : List Amp → Nat → Nat → Nat → Nat × Nat
  | [], _, bestI, bestV => (bestI, bestV)
  | a :: as, i, bestI, bestV =>
    if bestV < a.toNat then peakGo as (i + 1) i a.toNat else peakGo as (i + 1) bestI bestV

/-- The place in a part, counting from 0, and the value of its greatest amplitude, the lowest place where several
share it (R7, R41). -/
def peakOf (amps : List Amp) : Nat × Nat := peakGo amps 0 0 0

/-- A part's peak loop (R41). -/
def PartResult.peakLoop (p : PartResult) : Nat := p.origin + (peakOf p.amps).1

/-- A part's peak amplitude a0 (R41). -/
def PartResult.peakAmp (p : PartResult) : Nat := (peakOf p.amps).2

/-- One part interpolated: raw position, peak amplitude, and whether the peak lies on a window edge that is not a
grid edge. -/
structure AxisFix where
  raw : Int
  a0 : Nat
  edge : Bool
  deriving DecidableEq, Repr

/-- The amplitude of the k-th loop of a part. -/
def PartResult.amp (p : PartResult) (k : Nat) : Int := ((p.amps.getD k 0).toNat : Int)

/-- The neighbours a− and a+ of the peak at place k, and the edge flag, on an axis of n loops (R42). -/
def neighbours (n : Nat) (p : PartResult) (k : Nat) : Int × Int × Bool :=
  let atLow := k == 0
  let atHigh := k + 1 == p.amps.length
  if atLow && p.origin != 0 then (p.amp (k + 1), p.amp (k + 1), true)
  else if atHigh && p.origin + k + 1 != n then (p.amp (k - 1), p.amp (k - 1), true)
  else (if atLow then 0 else p.amp (k - 1), if atHigh then 0 else p.amp (k + 1), false)

/-- The crest offset from the three amplitudes (R43). -/
def crestOffset (am a0 ap : Int) : Int :=
  let dd := 2 * a0 - am - ap
  if dd = 0 then 0 else (128 * (ap - am)).tdiv dd

/-- One window part interpolated (R41 to R43). -/
def interpolate (n : Nat) (p : PartResult) : AxisFix :=
  let k := (peakOf p.amps).1
  let a0 := (peakOf p.amps).2
  let nb := neighbours n p k
  { raw := ((p.origin + k : Nat) : Int) * 256 + 128 + crestOffset nb.1 (a0 : Int) nb.2.1, a0 := a0, edge := nb.2.2 }

/-! ### Stage 2: tilt (R46 to R48) -/

/-- The arcsine table A, in tenths of a degree (R47). -/
def tiltTable : List Nat := [0, 36, 72, 108, 145, 182, 220, 259, 300, 342, 387, 434, 486, 543, 610, 696, 900]

/-- t of R47 step 3 for u in 0..1024. -/
def tiltMagnitude (u : Nat) : Nat :=
  let k := u / 64
  let f := u % 64
  if k = 16 then tiltTable.getD 16 0
  else tiltTable.getD k 0 + (tiltTable.getD (k + 1) 0 - tiltTable.getD k 0) * f / 64

/-- The sine of the lean in 1024ths (R47 step 1). -/
def leanSine (disp : Int) (s : Nat) : Nat := min 1024 (disp.natAbs * 1024 / s)

/-- The tilt on one axis and whether it reached the limit (R47, R48). -/
def axisTilt (disp : Int) (s : Nat) : Int × Bool :=
  let t := tiltMagnitude (leanSine disp s)
  let limited := decide (600 < t)
  let m : Int := if limited then 600 else (t : Int)
  (if 0 ≤ disp then m else -m, limited)

/-! ### Stage 3: tilt bias (R49) -/

/-- The biased tip position on one axis of n loops, clamped (R49). -/
def biasedTip (n : Nat) (tip disp : Int) (b : Nat) : Nat :=
  (clampInt (tip - (disp * (b : Int)).tdiv 64) 0 ((n : Int) * 256 - 1)).toNat

/-- What stages 1 to 3 hand on. -/
structure Stages where
  x : Nat
  y : Nat
  tiltX : Int
  tiltY : Int
  edgeX : Bool
  edgeY : Bool
  clip : Bool
  noTilt : Bool
  tiltLimit : Bool
  deriving DecidableEq, Repr

/-- The ring signal is too weak for tilt: a ring peak below floor(prox_level/4) (R7, R46). -/
def FrameResults.weakRing (f : FrameResults) (prox : Nat) : Bool :=
  decide (f.ringX.peakAmp < prox / 4) || decide (f.ringY.peakAmp < prox / 4)

/-- Stages 1 to 3 of a record's computation (R41 to R49). -/
def stages (b : Board) (f : FrameResults) (p : Profile) : Stages :=
  let tx := interpolate b.nx f.tipX
  let ty := interpolate b.ny f.tipY
  let rx := interpolate b.nx f.ringX
  let ry := interpolate b.ny f.ringY
  let weak := f.weakRing p.prox
  let dx := if weak then 0 else rx.raw - tx.raw
  let dy := if weak then 0 else ry.raw - ty.raw
  let kx := axisTilt dx p.s
  let ky := axisTilt dy p.s
  { x := biasedTip b.nx tx.raw dx p.bias
    y := biasedTip b.ny ty.raw dy p.bias
    tiltX := if weak then 0 else kx.1
    tiltY := if weak then 0 else ky.1
    edgeX := tx.edge || (!weak && rx.edge)
    edgeY := ty.edge || (!weak && ry.edge)
    clip := tx.a0 == 65535 || ty.a0 == 65535
    noTilt := weak
    tiltLimit := !weak && (kx.2 || ky.2) }

/-! ### Stage 4: map correction (R50 to R54) -/

/-- The index of the n-th node the Solver reads for a point: (i, j), (i+1, j), (i, j+1), (i+1, j+1) (R51). DESIGN CHOICE (log
entry 30): the four are read in this order, in which R51 names them. -/
def cellNode (b : Board) (x y n : Nat) : Nat :=
  (y / 1024 + n / 2) * b.nodesX + (x / 1024 + n % 2)

/-- The weighted correction of one axis, a half rounding upward (R53). The divisor is positive, so / is floor. -/
def blend (fx fy : Nat) (c00 c10 c01 c11 : Int) : Int :=
  let gx : Int := 1024 - (fx : Int)
  let gy : Int := 1024 - (fy : Int)
  (c00 * (gx * gy) + c10 * ((fx : Int) * gy) + c01 * (gx * (fy : Int)) + c11 * ((fx : Int) * (fy : Int)) + 524288)
    / 1048576

/-- The n-th correction of a record's reads. -/
def corrAt (got : List Correction) (n : Nat) : Correction := got.getD n { cx := 0, cy := 0, bad := false }

/-- The corrected, clamped position (R53, R54). -/
def correctPoint (b : Board) (x y : Nat) (got : List Correction) : Nat × Nat :=
  let fx := x % 1024
  let fy := y % 1024
  let cx := blend fx fy (corrAt got 0).cx (corrAt got 1).cx (corrAt got 2).cx (corrAt got 3).cx
  let cy := blend fx fy (corrAt got 0).cy (corrAt got 1).cy (corrAt got 2).cy (corrAt got 3).cy
  ((clampInt ((x : Int) + cx) 0 ((b.nx : Int) * 256 - 1)).toNat,
    (clampInt ((y : Int) + cy) 0 ((b.ny : Int) * 256 - 1)).toNat)

/-! ### Stage 5: pressure (R55 to R58) -/

/-- The greatest i in 0..7 with r_i ≤ r (R56). -/
def segment (rs : List Nat) (r : Nat) : Nat :=
  ((List.range 8).filter (fun i => decide (rs.getD i 0 ≤ r))).getLastD 0

/-- The profile's pressure curve at a phase code (R56). -/
def curve (p : Profile) (r : Nat) : Nat :=
  if r ≤ p.rs.getD 0 0 then p.ps.getD 0 0
  else if p.rs.getD 8 0 ≤ r then p.ps.getD 8 0
  else
    let i := segment p.rs r
    let r0 : Int := (p.rs.getD i 0 : Nat)
    let r1 : Int := (p.rs.getD (i + 1) 0 : Nat)
    let p0 : Int := (p.ps.getD i 0 : Nat)
    let p1 : Int := (p.ps.getD (i + 1) 0 : Nat)
    (p0 + ((p1 - p0) * ((r : Int) - r0)).tdiv (r1 - r0)).toNat

/-- The new smoothing state of a CONTACT record: loaded by a first contact record, moved by any other (R57). -/
def smoothed (k : Nat) (first : Bool) (old out : Nat) : Nat :=
  if first then out
  else ((old : Int) + ((out : Int) - (old : Int)).tdiv (2 ^ k : Nat)).toNat

/-- The reported pressure and the new S of a record (R55 to R58). -/
def pressureStage (p : Profile) (contact first : Bool) (r s : Nat) : Nat × Nat :=
  if contact then
    let s' := smoothed p.k first s (curve p r)
    (max 1 s', s')
  else (0, s)

end Sys2Proof.Machine
end

