-- ==== Sys2Proof/Machine/MapPort.lean ====
section
/-!
DEFINITION. The map port (chapter 4): the Map Arbiter, what each grant does, and the completion of the Executor's
posts that the port and the buffer serve.
-/
namespace Sys2Proof.Machine

open Sys2Proof

/-! ### Completion of Executor posts (R141) -/

/-- The Executor's current post completes: its writes are handed over and the Executor is idle (R141). -/
def completePost (st : Status) (dt : Detail) (fields : List Byte) (d : Device) : Device :=
  match d.exec with
  | none => d
  | some p => completeSlot p.slot st dt fields { d with exec := none }

/-- MAP_LOAD result fields (R76, R195). -/
def MapLoadWork.fields (w : MapLoadWork) : List Byte := le 2 w.written ++ le 2 w.clamped ++ le 2 w.verify

/-- MAP_READ result fields (R79, R195). -/
def MapReadWork.fields (w : MapReadWork) : List Byte := le 2 w.done ++ le 2 w.corrected ++ le 2 w.uncorrectable

/-- PROFILE result fields (R91, R195). -/
def profileFields (index entries removed : Nat) (key : Half) (rev : BitVec 8) : List Byte :=
  le 1 index ++ le 1 entries ++ le 1 removed ++ le 1 0 ++ le 2 key.toNat ++ le 1 rev.toNat

/-- CANCEL result fields: the number cancelled (R143, R195). -/
def cancelFields (count : Nat) : List Byte := le 1 count

/-- The result fields of a post that ends with FAULT (R77, R79, R92, R143, R195). -/
def Work.faultFields (entries : Nat) : Work → List Byte
  | .profile _ key => profileFields 0 entries 0 key 0
  | .mapLoad w => w.fields
  | .mapRead w => w.fields
  | .scanSetup _ => []
  | .counters _ _ => []
  | .cancelSlot _ => cancelFields 0

/-! ### The Map Arbiter (R65, R66) -/

/-- The Solver's computation that waits for map reads. -/
def Device.job (d : Device) : Option SolverJob :=
  match d.scan.engine with
  | .boundary b => some b.job
  | _ => none

/-- The node the Solver reads next (R51, R65). -/
def SolverJob.node (b : Board) (j : SolverJob) : Nat :=
  let s := stages b j.results j.profile
  cellNode b s.x s.y j.got.length

/-- The node a requester's grant accesses (R65). -/
def Device.requestNode (d : Device) : Requester → Nat
  | .solver => match d.job with
    | some j => j.node d.board
    | none => 0
  | .executor => match d.exec with
    | some { work := .mapLoad w, .. } => w.start + w.written
    | some { work := .mapRead w, .. } => w.start + w.done + w.group.length
    | _ => 0
  | .scrubber => d.map.cursor

/-- The requester the arbiter grants next (R66). -/
def CorrectionMap.choose (m : CorrectionMap) : Option Requester :=
  let execDue := m.execWaiting && decide (8 ≤ m.execPass)
  let scrubDue := m.scrubWaiting && decide (8 ≤ m.scrubPass)
  if execDue && (!scrubDue || decide (m.scrubPass ≤ m.execPass)) then some .executor
  else if scrubDue then some .scrubber
  else if m.solverWaiting then some .solver
  else if m.execWaiting then some .executor
  else if m.scrubWaiting then some .scrubber
  else none

/-- The pass count of a requester after a grant: 0 for the one granted, one more for one that still waits (R66). -/
def passAfter (granted waiting : Bool) (count : Nat) : Nat :=
  if granted then 0 else if waiting then count + 1 else count

/-- A MAP_LOAD grant writes the head entry's node whole, with a fresh code; its parts were limited before the grant was
requested (R75). -/
def grantWrite (d : Device) : Device :=
  match d.exec with
  | some { work := .mapLoad w, .. } =>
    match w.entries with
    | [] => d
    | e :: _ =>
      let word := NodeWord.fresh (BitVec.ofInt 16 e.1) (BitVec.ofInt 16 e.2)
      { d with map := { d.map with nodes := storeNode d.map.nodes (w.start + w.written) word } }
  | _ => d

/-- A grant begins: the request is no longer waiting, and the access sees the word as it stands now (R40, R65). -/
def grantTo (who : Requester) (d : Device) : Device :=
  let node := d.requestNode who
  let d := if who = .executor then grantWrite d else d
  let m := d.map
  { d with
    map := { m with
      grant := some { who := who, node := node, word := readNode m.nodes node }
      solverWaiting := m.solverWaiting && who != .solver
      execWaiting := m.execWaiting && who != .executor
      scrubWaiting := m.scrubWaiting && who != .scrubber
      execPass := passAfter (who == .executor) m.execWaiting m.execPass
      scrubPass := passAfter (who == .scrubber) m.scrubWaiting m.scrubPass } }

/-- When the port is free and a request waits, the arbiter makes the next grant (R65). -/
def arbitrate (d : Device) : Device :=
  match d.map.grant with
  | some _ => d
  | none => match d.map.choose with
    | none => d
    | some who => grantTo who d

/-- The Executor places its next node access (R65). -/
def requestExec (d : Device) : Device := arbitrate { d with map := { d.map with execWaiting := true } }

/-- The Solver places its next read (R65). -/
def requestSolver (d : Device) : Device := arbitrate { d with map := { d.map with solverWaiting := true } }

/-- A waiting scrub request is withdrawn; it takes no grant and its pass count is 0 (R65, R66, R72). -/
def withdrawScrub (d : Device) : Device :=
  { d with map := { d.map with scrubWaiting := false, scrubPass := 0 } }

/-- The Executor's waiting request is withdrawn (R65, R66, R77). -/
def withdrawExec (d : Device) : Device :=
  { d with map := { d.map with execWaiting := false, execPass := 0 } }

/-- The grant in progress has ended; the port is free. -/
def endGrant (d : Device) : Device := { d with map := { d.map with grant := none } }

/-! ### What each grant does -/

/-- The cursor after a scrub grant (R71). -/
def nextCursor (count cursor : Nat) : Nat := if count ≤ cursor + 1 then 0 else cursor + 1

/-- A scrub grant: a CORRECTED word is written back with the restored bit and a fresh code; the outcome is counted and
offered; the cursor advances (R71). -/
def answerScrub (g : Grant) (d : Device) : Device :=
  let r := g.word.check
  let nodes :=
    if r.outcome = .corrected then storeNode d.map.nodes g.node (NodeWord.fresh r.cx r.cy) else d.map.nodes
  let d := noteRead g.node r .scrubber { d with map := { d.map with nodes := nodes } }
  endGrant { d with map := { d.map with cursor := nextCursor d.board.nodeCount d.map.cursor } }

/-- The Executor's current post goes on with this work. -/
def setWork (w : Work) (d : Device) : Device :=
  { d with exec := d.exec.map fun p => { p with work := w } }

/-- A source entry has a part outside −1024..1023 (R75). -/
def entryClamped (e : Int × Int) : Bool := limitPart e.1 != e.1 || limitPart e.2 != e.2

/-- A MAP_LOAD with its head entry limited, and counted as clamped if that changed a part of it (R75). -/
def MapLoadWork.limitHead (w : MapLoadWork) : MapLoadWork :=
  match w.entries with
  | [] => w
  | e :: rest =>
    { w with
      clamped := w.clamped + bit (entryClamped e)
      entries := (limitPart e.1, limitPart e.2) :: rest }

/-- A MAP_LOAD after the node of its head entry has been written and read back with this outcome (R75). -/
def MapLoadWork.advance (w : MapLoadWork) (o : ReadOutcome) : MapLoadWork :=
  match w.entries with
  | [] => w
  | _ :: rest =>
    { w with
      written := w.written + 1
      verify := w.verify + bit (o != .clean)
      entries := rest }

/-- The Executor's grant is carried out, short of its next request: a MAP_LOAD reads the written word back and counts
the node (R75); a MAP_READ keeps the output entry (R78). -/
def answerExec (g : Grant) (d : Device) : Device :=
  match d.exec with
  | some { work := .mapLoad w, .. } =>
    let r := (readNode d.map.nodes g.node).check
    endGrant (setWork (.mapLoad (w.advance r.outcome)) (noteRead g.node r .executor d))
  | some { work := .mapRead w, .. } =>
    let r := g.word.check
    endGrant (setWork (.mapRead { w with group := w.group ++ [r.output] }) (countOutcome r.outcome d))
  | _ => endGrant d

/-- The grant in progress completes before a reset takes hold of the map (R61, R80). -/
def settleGrant (d : Device) : Device :=
  match d.map.grant with
  | none => d
  | some g => match g.who with
    | .scrubber => answerScrub g d
    | .executor => answerExec g d
    | .solver => endGrant (noteRead g.node g.word.check .solver d)

/-! ### Bulk writes (R78, R79, R185) -/

/-- The group being gathered is complete (R78). -/
def MapReadWork.groupReady (w : MapReadWork) : Bool :=
  !w.group.isEmpty && w.group.length == min 16 (w.count - w.done)

/-- The number of entries of a group with an outcome. -/
def countIn (o : ReadOutcome) (g : List NodeOutput) : Nat := (g.filter fun e => e.outcome == o).length

/-- A MAP_READ group takes a bulk entry; the last one completes the post (R78, R79). -/
def bulkMapRead (w : MapReadWork) (d : Device) : Device :=
  let w' :=
    { w with
      done := w.done + w.group.length
      corrected := w.corrected + countIn .corrected w.group
      uncorrectable := w.uncorrectable + countIn .uncorrectable w.group
      group := [] }
  let d := enterBuffer
    { role := .bulk, addr := w.dest + BitVec.ofNat 64 (8 * w.done), data := w.group.flatMap NodeOutput.image }
    (setWork (.mapRead w') d)
  if w'.done = w'.count then completePost .ok .none w'.fields d else requestExec d

/-- COUNTERS result fields (R185, R195). -/
def countersFields (clear : Bool) (clock : Micros) : List Byte := le 1 (bit clear) ++ le 3 0 ++ le 4 clock.toNat

/-- A COUNTERS post takes its bulk entry: copy, clear and completion in one event (R185). -/
def bulkCounters (dest : Addr) (clear : Bool) (d : Device) : Device :=
  let block := { role := WriteRole.bulk, addr := dest, data := d.counters.image }
  let d := enterBuffer block d
  let d := if clear then { d with counters := Counters.zero } else d
  completePost .ok .none (countersFields clear d.clock) d

/-- The Executor's post waits for a bulk entry, and what it does at the grant (R162). -/
def bulkGrant (d : Device) : Option Device :=
  match d.exec with
  | some { work := .mapRead w, .. } => if w.groupReady then some (bulkMapRead w d) else none
  | some { work := .counters dest clear, .. } => some (bulkCounters dest clear d)
  | _ => none

end Sys2Proof.Machine
end

