-- ==== Sys2Proof/Machine/TraceUnit.lean ====
section
/-!
DEFINITION. The Trace Unit (chapter 9): frames, triggers, staging and the ends of a trace. The arming of a trace is
with the posts.
-/
namespace Sys2Proof.Machine

open Sys2Proof

/-- The result fields of a trace, from body offset 44 (R152, R195). -/
def TraceJob.fields (t : TraceJob) : List Byte :=
  le 2 t.written ++ le 1 t.preWritten ++ le 1 (bit t.trigTag.isSome) ++ le 2 t.post ++ le 2 0
    ++ le 4 (t.trigTag.getD 0).toNat

/-- A trace completes in one event: staged frames and the pre ring are dropped, its completion writes are handed over
and the unit is IDLE (R152). -/
def endTrace (st : Status) (dt : Detail) (t : TraceJob) (d : Device) : Device :=
  completeSlot t.slot st dt t.fields { d with trace := none }

/-- Nine loops kept of a part: a tracking part as it is, a whole-grid part around its peak loop (R147). -/
def keepNine (n : Nat) (p : PartResult) : PartResult :=
  if p.amps.length = 9 then p
  else
    let o := min (p.peakLoop - 4) (n - 9)
    { origin := o, amps := (p.amps.drop (o - p.origin)).take 9 }

/-- The trace frame of a stepped frame (R147). -/
def traceFrame (b : Board) (ch : Channel) (f : FrameResults) (st : TrackState) : TraceFrame where
  timeTag := f.timeTag
  ch := ch
  state := st
  pre := false
  trigger := false
  symbol := f.symbol
  r := f.r
  tipX := keepNine b.nx f.tipX
  tipY := keepNine b.ny f.tipY
  ringX := keepNine b.nx f.ringX
  ringY := keepNine b.ny f.ringY

/-- A trigger fires on a step with this event, state after it and reported pressure (R148). -/
def triggerFires (t : TraceJob) (ev : RecEvent) (st : TrackState) (pressure : Nat) : Bool :=
  match t.trigger with
  | .immediate => true
  | .proxIn => ev == .proxIn
  | .touch => ev == .touch || (ev == .proxIn && st == .contact)
  | .lift => ev == .lift
  | .pressureAbove => decide (t.level ≤ pressure)

/-- The newest n of a list held oldest first. -/
def newest {α : Type} (n : Nat) (l : List α) : List α := l.drop (l.length - n)

/-- A frame fires the trigger: ARMED passes to CAPTURING (R149). -/
def fireTrigger (t : TraceJob) (f : TraceFrame) : TraceJob :=
  let pres := (newest t.pre t.ring).map fun x => { x with pre := true }
  { t with
    capturing := true
    trigTag := some f.timeTag
    ring := []
    staging := pres ++ [{ f with trigger := true }]
    preWritten := pres.length
    toTake := t.post - 1 }

/-- The Trace Unit receives a stepped frame of a channel (R147 to R150). -/
def receiveTraceFrame (ch : Channel) (f : FrameResults) (ev : RecEvent) (st : TrackState) (pressure : Nat)
    (d : Device) : Device :=
  match d.trace with
  | none => d
  | some t =>
    if t.ch ≠ ch then d
    else
      let tf := traceFrame d.board ch f st
      if t.capturing then
        if t.toTake = 0 then d
        else if t.staging.length < 16 then
          { d with trace := some { t with staging := t.staging ++ [tf], toTake := t.toTake - 1 } }
        else endTrace .ok .overrun { t with toTake := t.toTake - 1 } d
      else if triggerFires t ev st pressure then
        { d with trace := some (fireTrigger t tf) }
      else
        { d with trace := some { t with ring := newest 16 (t.ring ++ [tf]) } }

/-- The write of the oldest staged frame (R151). -/
def traceWrite (t : TraceJob) (f : TraceFrame) : HostWrite where
  role := .traceFrame
  addr := t.dest + BitVec.ofNat 64 (96 * t.written)
  data := f.image

/-- The oldest staged frame enters the buffer; the last one completes the trace (R151). -/
def stageOut (t : TraceJob) (f : TraceFrame) (rest : List TraceFrame) (d : Device) : Device :=
  let t' := { t with staging := rest, written := t.written + 1 }
  let d' := { enterBuffer (traceWrite t f) d with trace := some t' }
  if rest.isEmpty && t'.toTake == 0 then
    endTrace .ok (if t'.channelOff then .channelOff else .none) t' d'
  else d'

/-- The traced channel goes IDLE from another state (R153). -/
def traceChannelOff (ch : Channel) (d : Device) : Device :=
  match d.trace with
  | none => d
  | some t =>
    if t.ch ≠ ch then d
    else if t.capturing && !t.staging.isEmpty then
      { d with trace := some { t with toTake := 0, channelOff := true } }
    else endTrace .ok .channelOff t d

end Sys2Proof.Machine
end

