-- ==== Sys2Proof/Machine/Link.lean ====
section
/-!
DEFINITION. The Link Port (chapter 10): granting buffer entries, faults and the entry into HALTED, issuing the head
write, and reads.
-/
namespace Sys2Proof.Machine

open Sys2Proof

/-! ### Granting entries (R162, R163) -/

/-- The oldest write of the slot write queue enters the buffer; a DONE write clears its slot's in-flight mark
(R138, R162). -/
def enterSlotWrite (w : HostWrite) (rest : List HostWrite) (d : Device) : Device :=
  let d := enterBuffer w { d with link := { d.link with slotQueue := rest } }
  match w.role with
  | .done slot _ => clearMark slot d
  | _ => d

/-- One free entry offered to the classes below drain, in order; none when nothing waits (R163). -/
def grantBelowDrain (d : Device) : Option Device :=
  match d.link.slotQueue with
  | w :: rest => some (enterSlotWrite w rest d)
  | [] => match d.trace with
    | some t => match t.staging with
      | f :: rest => some (stageOut t f rest d)
      | [] => bulkGrant d
    | none => bulkGrant d

/-- A free entry is offered to the drain (R163). -/
def offerDrain (d : Device) : Device := if d.link.free then drainWalk d else d

/-- An entry the drain has left free is granted below it, if a class takes it (R163). -/
def grantOne (d : Device) : Option Device := if d.link.free then grantBelowDrain d else none

/-- Up to n grants: each free entry goes to a drain walk first, then to the classes below (R163). -/
def grantEntries : Nat → Device → Device
  | 0, d => d
  | n + 1, d => match grantOne (offerDrain d) with
    | some d' => grantEntries n d'
    | none => offerDrain d

/-- Whenever the buffer has a free entry and a producer waits, the entry is granted (R163). The buffer holds 4, so at
most 4 entries are granted below drain. -/
def grants (d : Device) : Device := grantEntries 4 d

/-! ### Faults and HALTED (R164, R167, R169) -/

/-- A grant in progress of the Executor completes (R77, R79). -/
def finishExecGrant (d : Device) : Device :=
  match d.map.grant with
  | some g => if g.who = .executor then answerExec g d else d
  | none => d

/-- The Executor's current post completes with FAULT, and the port is free for the next grant (R65, R141). -/
def failExec (d : Device) : Device :=
  match d.exec with
  | none => d
  | some p => arbitrate (completePost .fault .none (p.work.faultFields d.profiles.entries.length) d)

/-- The Executor's current post ends with FAULT: a grant in progress completes, a waiting request is withdrawn
(R77, R79, R141, R169). -/
def faultExec (d : Device) : Device :=
  match d.exec with
  | none => d
  | some _ => failExec (withdrawExec (finishExecGrant d))

/-- A held trace ends with FAULT (R155). -/
def faultTrace (d : Device) : Device :=
  match d.trace with
  | none => d
  | some t => endTrace .fault .none t d

/-- The sweep in progress ends and prompt pending is cleared (R140). -/
def faultSweep (d : Device) : Device :=
  { d with intake := { d.intake with sweep := none, promptPending := false } }

/-- An idle timer as it pauses, with its time short of the timeout: an expiry that was due and has not been taken does not
happen until that time is made up after RESUME (R118, R119). DESIGN CHOICE (log entry 38): it is short by the clock's one
µs. -/
def Capture.pause (c : Capture) : Capture :=
  if c.timeout = 0 then c else { c with elapsed := min c.elapsed (1000 * c.timeout - 1) }

/-- Every idle timer pauses, keeping the time it has run (R118, R119, R124). -/
def pauseTimers (d : Device) : Device :=
  { d with delivery := { d.delivery with captures := d.delivery.captures.map Capture.pause } }

/-- The entry into HALTED: the read in flight is abandoned, the requests waiting are withdrawn, and each unit acts as
its rule gives (R169). While HALTED no idle timer runs (R118). DESIGN CHOICE (log entry 32): the units act in the order of
R169's table, so the Executor's result and DONE are handed over before the trace's. -/
def enterHalted (d : Device) : Device :=
  let d := { d with link := { d.link with halted := true, inFlight := none, waiting := [] } }
  grants (faultTrace (pauseTimers (faultExec (faultSweep d))))

/-- The Fault Record takes a fault when it is empty (R167). -/
def recordFault (cls : FaultClass) (site : Site) (slot : Option (Fin 32)) (d : Device) : Device :=
  match d.link.faultRecord with
  | some _ => d
  | none =>
    { d with link := { d.link with faultRecord := some { cls := cls, site := site, slot := slot, clock := d.clock } } }

/-- A fault is raised: record, EVENT.FAULT, HALTED, in this order (R167). -/
def raiseFault (cls : FaultClass) (site : Site) (slot : Option (Fin 32)) (d : Device) : Device :=
  enterHalted (setCause .fault (recordFault cls site slot d))

/-- The class of an access that cannot be issued, and the part after the choice. Where both conditions fail the
class is free (log entry 2). -/
def blockedClass (d : Device) : FaultClass × Device :=
  if d.link.inputs.up then (.masterOff, d)
  else if d.link.inputs.mastering then (.linkDown, d)
  else
    (if Config.linkDownOutranksMasterOff d.link.choices then .linkDown else .masterOff,
      { d with link := { d.link with choices := d.link.choices + 1 } })

/-- An access that cannot be issued raises its fault (R165, R166). -/
def raiseBlocked (site : Site) (slot : Option (Fin 32)) (d : Device) : Device :=
  raiseFault (blockedClass d).1 site slot (blockedClass d).2

/-! ### The head write (R161, R166) -/

/-- When the buffer holds an entry and no write is being issued, the head is issued, or faults, or, while HALTED,
waits (R161, R166). -/
def issueHead (d : Device) : Device :=
  if d.link.buffer.isEmpty || d.link.issued then d
  else if d.link.canIssue then { d with link := { d.link with issued := true } }
  else if d.link.halted then d
  else raiseBlocked .drain none d

/-- The Link Port's part of an event: free entries are granted, then a head that waits is issued. -/
def settleLink (d : Device) : Device := issueHead (grants d)

/-! ### Reads (R159, R165) -/

/-- A read is issued and its timer started, or faults (R159, R165). -/
def issueRead (r : ReadReq) (d : Device) : Device :=
  if d.link.canIssue then { d with link := { d.link with inFlight := some { req := r, elapsed := 0 } } }
  else raiseBlocked r.site r.slot d

/-- When no read is in flight, the read asked for first is issued (R159). -/
def pumpReads (d : Device) : Device :=
  match d.link.inFlight with
  | some _ => d
  | none => match d.link.waiting with
    | [] => d
    | r :: rest => issueRead r { d with link := { d.link with waiting := rest } }

/-- A unit asks for a read. None is requested while HALTED (R167). -/
def requestRead (r : ReadReq) (d : Device) : Device :=
  if d.link.halted then d
  else pumpReads { d with link := { d.link with waiting := d.link.waiting ++ [r] } }

/-- The read in flight has completed: its timer is stopped (R159). -/
def endRead (d : Device) : Device := { d with link := { d.link with inFlight := none } }

/-- The read in flight is at this site and its data has this length. -/
def Device.readMatches (d : Device) (site : Site) (bytes : List Byte) : Bool :=
  match d.link.inFlight with
  | some f => f.req.site == site && f.req.len == bytes.length
  | none => false

end Sys2Proof.Machine
end

