-- ==== Sys2Proof/Machine/Tracking.lean ====
section
/-!
DEFINITION. The Channel Tracker (chapter 2): a context's step, its identity, its profile binding and the production of
records.
-/
namespace Sys2Proof.Machine

open Sys2Proof

/-! ### Entering SEARCH and IDLE (R22) -/

/-- A context entering SEARCH or IDLE forgets its pen (R22). -/
def Context.forget (c : Context) (st : TrackState) (defaultRev : BitVec 8) : Context :=
  { c with
    state := st
    ident := .unknown
    digits := []
    attempts := 0
    coastCount := 0
    hoverCount := 0
    bridged := false
    changed := false
    lastSeen := .default
    lastRev := defaultRev }

/-- HOVER, CONTACT or COAST: a tracked pen. -/
def TrackState.tracked : TrackState → Bool
  | .hover => true
  | .contact => true
  | .coast => true
  | _ => false

/-- A stroke is open: CONTACT, or COAST having come from CONTACT (R12, R28). -/
def Context.strokeOpen (c : Context) : Bool :=
  c.state == .contact || (c.state == .coast && c.prevContact)

/-! ### Tool identification (R33, R34) -/

/-- The tool code of eight digits, the first most significant (R33). -/
def toolCode (ds : List (Fin 4)) : Nat := (ds.take 8).foldl (fun v x => 4 * v + x.val) 0

/-- The sum of the four nibbles of a code, modulo 16 (R33). -/
def nibbleSum (c : Nat) : Nat := (c % 16 + c / 16 % 16 + c / 256 % 16 + c / 4096 % 16) % 16

/-- The received check: four times the ninth digit plus the tenth (R33). -/
def receivedCheck (ds : List (Fin 4)) : Nat := 4 * (ds.getD 8 0).val + (ds.getD 9 0).val

/-- A reading of ten digits is good (R33). -/
def readingGood (ds : List (Fin 4)) : Bool := receivedCheck ds == nibbleSum (toolCode ds)

/-- A context whose reading ended with a bad check (R34). -/
def Context.badReading (c : Context) : Context :=
  { c with
    digits := []
    attempts := c.attempts + 1
    ident := if 3 ≤ c.attempts + 1 then .failed else .unknown }

/-- A digit appended to the reading; the tenth decodes it (R34). -/
def Context.takeDigit (c : Context) (x : Fin 4) : Context :=
  let ds := c.digits ++ [x]
  if c.digits.length < 9 then { c with digits := ds }
  else if readingGood ds then { c with digits := ds, ident := .known, code := BitVec.ofNat 16 (toolCode ds) }
  else c.badReading

/-- A symbol in UNKNOWN: the MARK begins a reading (R34). -/
def Context.symbolInUnknown (c : Context) : Symbol → Context
  | .mark => { c with ident := .reading, digits := [] }
  | .none => c
  | .digit _ => c

/-- A symbol in READING: the MARK restarts the reading, NONE abandons it, a digit is collected (R34). -/
def Context.symbolInReading (c : Context) : Symbol → Context
  | .mark => { c with digits := [] }
  | .none => { c with ident := .unknown, digits := [] }
  | .digit x => c.takeDigit x

/-- The symbol applied to the identity state (R34). -/
def Context.applySymbol (c : Context) (s : Symbol) : Context :=
  match c.ident with
  | .unknown => c.symbolInUnknown s
  | .reading => c.symbolInReading s
  | .known => c
  | .failed => c

/-! ### Profile binding (R36, R37, R83) -/

/-- The entry of a key; key 0 has none (R83). -/
def Profiles.lookup (p : Profiles) (key : Half) : Option ProfileEntry :=
  if key = 0 then none else p.entries.find? (fun e => e.key == key)

/-- A resolution: the profile's name, revision and values, and whether a KNOWN code was not listed (R36). -/
structure Resolution where
  name : ProfileName
  rev : BitVec 8
  profile : Profile
  unlisted : Bool
  deriving DecidableEq, Repr

/-- The default profile as it stands. -/
def Profiles.resolveDefault (p : Profiles) (unlisted : Bool) : Resolution where
  name := .default
  rev := p.defaultRev
  profile := p.default
  unlisted := unlisted

/-- The governing profile of a step that began in the given state, with the identity after its symbol (R36). -/
def Profiles.resolve (p : Profiles) (atStart : TrackState) (c : Context) : Resolution :=
  if atStart = .search then p.resolveDefault false
  else if c.ident ≠ .known then p.resolveDefault false
  else match p.lookup c.code with
  | some e => { name := .key e.key, rev := e.rev, profile := e.profile, unlisted := false }
  | none => p.resolveDefault true

/-- The resolved profile becomes the last seen one; a tracked channel notes a difference (R37). -/
def Context.noteProfile (c : Context) (atStart : TrackState) (r : Resolution) : Context :=
  { c with
    changed := c.changed || (atStart.tracked && (c.lastSeen != r.name || c.lastRev != r.rev))
    lastSeen := r.name
    lastRev := r.rev }

/-! ### Transitions (R23 to R27) -/

/-- The contact check, from HOVER (false) or CONTACT (true) (R25, R26). -/
def Context.contactCheck (c : Context) (fromContact : Bool) (p : Profile) (r : Nat) : Context × Yield :=
  if fromContact then
    if p.off ≤ r then ({ c with state := .contact }, { state := .contact, event := .none, strokeEnd := false })
    else ({ c with state := .hover }, { state := .hover, event := .lift, strokeEnd := true })
  else if p.on ≤ r then
    ({ c with state := .contact, stroke := c.stroke + 1 }, { state := .contact, event := .touch, strokeEnd := false })
  else ({ c with state := .hover }, { state := .hover, event := .none, strokeEnd := false })

/-- A find in SEARCH, with the contact check made at once (R23). -/
def Context.findPen (c : Context) (p : Profile) (r : Nat) : Context × Yield :=
  if p.on ≤ r then
    ({ c with state := .contact, stroke := c.stroke + 1 }, { state := .contact, event := .proxIn, strokeEnd := false })
  else ({ c with state := .hover }, { state := .hover, event := .proxIn, strokeEnd := false })

/-- What a transition comes to: no record, a record to compute, or the pen given up (R21 step 3). -/
inductive Move where
  | silent (c : Context)
  | record (c : Context) (y : Yield)
  | giveUp
  deriving DecidableEq, Repr

/-- A move with a record. -/
def Move.ofPair (m : Context × Yield) : Move := .record m.1 m.2

/-- The transition of a step, on the tip peaks and the phase code (R23 to R27). -/
def Context.transition (c : Context) (p : Profile) (px py r : Nat) : Move :=
  let present := decide (p.prox / 2 ≤ px) && decide (p.prox / 2 ≤ py)
  match c.state with
  | .idle => .silent c
  | .search =>
    if p.prox ≤ px ∧ p.prox ≤ py then .ofPair (c.findPen p r) else .silent c
  | .hover =>
    if present then .ofPair (c.contactCheck false p r)
    else .silent { c with state := .coast, prevContact := false, coastCount := 1 }
  | .contact =>
    if present then .ofPair (c.contactCheck true p r)
    else .silent { c with state := .coast, prevContact := true, coastCount := 1 }
  | .coast =>
    if present then .ofPair ({ c with coastCount := 0, bridged := true }.contactCheck c.prevContact p r)
    else if c.coastCount < 3 then .silent { c with coastCount := c.coastCount + 1 }
    else .giveUp

/-! ### Records (R28, R29, R35, R95) -/

/-- The tool code field of a channel's records (R35). -/
def Context.toolField (c : Context) : Half := if c.ident = .known then c.code else 0

/-- A PROX_OUT record of a context, before it leaves tracking (R28). -/
def proxOutRecord (ch : Channel) (c : Context) (unlisted : Bool) (tag : Micros) (slip : Bool) : Record where
  ch := ch
  state := .none
  event := .proxOut
  flags :=
    { slip := slip
      toolPending := c.ident == .unknown || c.ident == .reading
      toolUnlisted := c.ident == .known && unlisted
      toolFailed := c.ident == .failed
      strokeEnd := c.strokeOpen }
  stroke := c.stroke
  timeTag := tag
  x := c.lastX
  y := c.lastY
  pressure := 0
  tiltX := 0
  tiltY := 0
  tool := c.toolField
  seq := c.seq
  phase := 0

/-- A record is handed to the Delivery Unit: the sequence number rises, the produced counter rises, the record is
placed or held, and the Link Port settles (R31, R95). -/
def produce (r : Record) (d : Device) : Device :=
  let c := d.ctx r.ch
  settleLink (deliver r (countProduced r.ch (d.setCtx r.ch { c with seq := c.seq + 1, hoverCount := 0 })))

/-- The KNOWN code of a context is not listed in the Profile Table as it stands (R35). DESIGN CHOICE (log entry 39): a PROX_OUT
made at a stop or a disabling takes TOOL_UNLISTED from the table as it stands then, not from the channel's last step. -/
def Device.codeUnlisted (d : Device) (ch : Channel) : Bool :=
  (d.ctx ch).ident == .known && (d.profiles.lookup (d.ctx ch).code).isNone

/-- A channel that leaves tracking produces its PROX_OUT (R12, R14, R28; its TOOL_UNLISTED, log entry 39). -/
def produceProxOut (ch : Channel) (tag : Micros) (slip : Bool) (d : Device) : Device :=
  produce (proxOutRecord ch (d.ctx ch) (d.codeUnlisted ch) tag slip) d

/-- A record is a first contact record: TOUCH, PROX_IN in CONTACT, or CONTACT carrying PROFILE_CHANGED (R29, R57). -/
def firstContact (y : Yield) (changed : Bool) : Bool :=
  y.state == .contact && (y.event == .touch || y.event == .proxIn || changed)

/-- A computed record and the new S (R29, R39 to R59). noMap: the map state found at the start of stage 4 was
ABSENT (R50). -/
def computedRecord (b : Board) (c : Context) (j : SolverJob) (noMap : Bool) : Record × Nat :=
  let st := stages b j.results j.profile
  let pt := if noMap then (st.x, st.y) else correctPoint b st.x st.y j.got
  let pr := pressureStage j.profile (j.yield.state == .contact) (firstContact j.yield c.changed) j.results.r.toNat c.smooth
  ({ ch := j.ch
     state := j.yield.state
     event := j.yield.event
     flags :=
      { slip := j.results.slipped
        edgeX := st.edgeX
        edgeY := st.edgeY
        clip := st.clip
        mapFault := !noMap && j.got.any (fun g => g.bad)
        noMap := noMap
        tiltLimit := st.tiltLimit
        noTilt := st.noTilt
        toolPending := c.ident == .unknown || c.ident == .reading
        toolUnlisted := j.unlisted
        toolFailed := c.ident == .failed
        bridged := c.bridged
        strokeEnd := j.yield.strokeEnd
        profileChanged := c.changed }
     stroke := c.stroke
     timeTag := j.results.timeTag
     x := pt.1
     y := pt.2
     pressure := pr.1
     tiltX := st.tiltX
     tiltY := st.tiltY
     tool := c.toolField
     seq := c.seq
     phase := j.results.r }, pr.2)

/-! ### The end of a step: peaks and trace (R7, R21 steps 5 and 6) -/

/-- The last peak loops brought up to date (R7). -/
def Context.updatePeaks (c : Context) (f : FrameResults) (prox : Nat) : Context :=
  if c.state = .hover ∨ c.state = .contact then
    let weak := f.weakRing prox
    { c with
      peakTipX := f.tipX.peakLoop
      peakTipY := f.tipY.peakLoop
      peakRingX := if weak then f.tipX.peakLoop else f.ringX.peakLoop
      peakRingY := if weak then f.tipY.peakLoop else f.ringY.peakLoop }
  else c

/-- Steps 5 and 6 of a channel's step: peaks, then the Trace Unit is told (R21). -/
def finishStep (ch : Channel) (f : FrameResults) (prox : Nat) (ev : RecEvent) (pressure : Nat) (d : Device) : Device :=
  let d := d.setCtx ch ((d.ctx ch).updatePeaks f prox)
  settleLink (receiveTraceFrame ch f ev (d.ctx ch).state pressure d)

/-- A computation has ended: the record is produced and the step finishes (R29). -/
def finishJob (j : SolverJob) (noMap : Bool) (d : Device) : Device :=
  let c := d.ctx j.ch
  let made := computedRecord d.board c j noMap
  let d := d.setCtx j.ch
    { c with smooth := made.2, lastX := made.1.x, lastY := made.1.y, bridged := false, changed := false }
  finishStep j.ch j.results j.profile.prox j.yield.event made.1.pressure (produce made.1 d)

/-- A plain hover record, subject to the hover divisor (R32). -/
def Yield.plainHover (y : Yield) : Bool := y.state == .hover && y.event == .none

/-- The hover divisor holds the yielded record back (R32). -/
def heldBack (divisor : Nat) (c : Context) (y : Yield) : Bool :=
  y.plainHover && decide (c.hoverCount + 1 < divisor)

/-- A context takes its step on its frame results (R21). The answer is the part, and the computation that waits for map
reads, if the step has one (R40). -/
def stepChannel (ch : Channel) (f : FrameResults) (d : Device) : Device × Option SolverJob :=
  let c0 := d.ctx ch
  let c1 := if c0.state = .search then c0 else c0.applySymbol f.symbol
  let d := if c0.ident ≠ .failed ∧ c1.ident = .failed then countIdentFailure d else d
  let res := d.profiles.resolve c0.state c1
  let c2 := c1.noteProfile c0.state res
  match c2.transition res.profile f.tipX.peakAmp f.tipY.peakAmp f.r.toNat with
  | .silent c => (finishStep ch f res.profile.prox .none 0 (d.setCtx ch c), none)
  | .giveUp =>
    let d := produceProxOut ch f.timeTag f.slipped (d.setCtx ch c2)
    let d := d.setCtx ch ((d.ctx ch).forget .search d.profiles.defaultRev)
    (finishStep ch f res.profile.prox .proxOut 0 d, none)
  | .record c y =>
    if heldBack d.scan.divisor c y then
      (finishStep ch f res.profile.prox .none 0 (d.setCtx ch { c with hoverCount := c.hoverCount + 1 }), none)
    else
      let j : SolverJob :=
        { ch := ch, results := f, profile := res.profile, yield := y, unlisted := res.unlisted, got := [] }
      let d := d.setCtx ch c
      if d.map.state = .absent then (finishJob j true d, none) else (d, some j)

end Sys2Proof.Machine
end

