-- ==== Sys2Proof/Machine/Scan.lean ====
section
/-!
DEFINITION. The Scan Engine (chapter 1): windows, frame boundaries, starting and stopping, SCAN_SETUP's application and
the Sync Tracker.
-/
namespace Sys2Proof.Machine

open Sys2Proof

/-! ### Windows (R5, R6, R8) -/

/-- A part placed around a peak loop on an axis of n loops (R6). -/
def nineAround (n peak : Nat) : Span where
  origin := min (peak - 4) (n - 9)
  width := 9

/-- A part that covers an axis of n loops (R6). -/
def wholeAxis (n : Nat) : Span where
  origin := 0
  width := n

/-- The windows of a channel, placed from its context at the frame start (R6). -/
def placeWindows (b : Board) (c : Context) : ChannelWindows :=
  if c.state = .search then
    { tipX := wholeAxis b.nx, tipY := wholeAxis b.ny, ringX := wholeAxis b.nx, ringY := wholeAxis b.ny,
      tip := none, ring := none }
  else
    { tipX := nineAround b.nx c.peakTipX, tipY := nineAround b.ny c.peakTipY,
      ringX := nineAround b.nx c.peakRingX, ringY := nineAround b.ny c.peakRingY, tip := none, ring := none }

/-- The channel whose window is the next to complete, and whether it is the ring window (R5). -/
def Frame.nextWindow (f : Frame) : Option (Channel × Bool) :=
  let due (w : Option ChannelWindows) : Option Bool := match w with
    | none => none
    | some w => if w.tip.isNone then some false else if w.ring.isNone then some true else none
  match due f.wins.a with
  | some r => some (.a, r)
  | none => match due f.wins.b with
    | some r => some (.b, r)
    | none => none

/-- A channel's windows with a result kept, when its amplitudes are as many as the loops listened to (R8). -/
def ChannelWindows.accept (w : ChannelWindows) : WindowResult → ChannelWindows
  | .tip x y r =>
    if x.length = w.tipX.width ∧ y.length = w.tipY.width then { w with tip := some { x := x, y := y, r := r } } else w
  | .ring x y s =>
    if x.length = w.ringX.width ∧ y.length = w.ringY.width then { w with ring := some { x := x, y := y, s := s } } else w

/-- A result is of the ring window. -/
def isRing : WindowResult → Bool
  | .tip _ _ _ => false
  | .ring _ _ _ => true

/-- The frame with a window result kept, when that window is the next to complete (R5, R8). -/
def Frame.accept (f : Frame) (ch : Channel) (res : WindowResult) : Frame :=
  if f.nextWindow = some (ch, isRing res) then
    { f with wins := f.wins.set ch ((f.wins.get ch).map fun w => w.accept res) }
  else f

/-- The frame results of a channel whose windows both completed (R9). -/
def Frame.results (f : Frame) (ch : Channel) : Option FrameResults :=
  match f.wins.get ch with
  | some { tipX := tx, tipY := ty, ringX := rx, ringY := ry, tip := some t, ring := some g } =>
    some
      { tipX := { origin := tx.origin, amps := t.x }
        tipY := { origin := ty.origin, amps := t.y }
        ringX := { origin := rx.origin, amps := g.x }
        ringY := { origin := ry.origin, amps := g.y }
        r := t.r
        symbol := g.s
        timeTag := f.timeTag
        slipped := f.slipped }
  | _ => none

/-! ### Channels going IDLE, and SCAN_SETUP's application (R12 to R14) -/

/-- A channel goes to IDLE, which ends its trace (R22, R153); the Link Port settles at the end of the event (log entry
13). -/
def toIdle (ch : Channel) (d : Device) : Device :=
  if (d.ctx ch).state = .idle then d
  else settleLink (traceChannelOff ch (d.setCtx ch ((d.ctx ch).forget .idle d.profiles.defaultRev)))

/-- A tracked channel that is about to go to IDLE produces its PROX_OUT (R12, R14). -/
def leaveTracking (ch : Channel) (tag : Micros) (slip : Bool) (d : Device) : Device :=
  if (d.ctx ch).state.tracked then produceProxOut ch tag slip d else d

/-- A channel that SCAN_SETUP disables: its PROX_OUT, then IDLE (R14). -/
def disableChannel (ch : Channel) (want : Bool) (tag : Micros) (d : Device) : Device :=
  if want || !d.scan.enables.get ch then d
  else toIdle ch (leaveTracking ch tag d.scan.slip.isSome d)

/-- The Sync Tracker enters FREE: its pending slip is cleared and its loss timer stops (R14, R18). -/
def trackerFree (d : Device) : Device :=
  { d with scan := { d.scan with tracker := .free, slip := none, lossElapsed := 0 } }

/-- The hover divisor applied: 0 is taken as 1, above 4 as 4 (R13). -/
def divisorApplied (v : Byte) : Nat := clampNat v.toNat 1 4

/-- SCAN_SETUP result fields (R13, R195). -/
def scanFields (enA enB : Bool) (divisor : Nat) (clock : Micros) : List Byte :=
  le 1 (bit enA + 2 * bit enB) ++ le 1 divisor ++ le 2 0 ++ le 4 clock.toNat

/-- Channel B's enable as a SCAN_SETUP sets it: 0 while B is not fitted (R3). -/
def Board.enableB (b : Board) (p : ScanSetupParams) : Bool := p.enables.getLsbD 1 && b.bFitted

/-- The detail of an applied SCAN_SETUP (R3, R13). -/
def Board.setupDetail (b : Board) (p : ScanSetupParams) : Detail :=
  if p.enables.getLsbD 1 && !b.bFitted then .notFitted else .none

/-- The settings of a SCAN_SETUP take effect (R14). tag: the time tag of the frame whose start applies them; running:
the application is at a frame start. DESIGN CHOICE (log entry 37): where both channels are disabled, channel A goes to IDLE,
its trace ending CHANNEL_OFF, before channel B's PROX_OUT is produced. -/
def applySettings (p : ScanSetupParams) (tag : Micros) (running : Bool) (d : Device) : Device :=
  let rate := (parseRate p.rate).getD d.scan.rate
  let enA := p.enables.getLsbD 0
  let enB := d.board.enableB p
  let d := if running && rate != d.scan.rate then trackerFree d else d
  let d := disableChannel .b enB tag (disableChannel .a enA tag d)
  { d with
    scan := { d.scan with rate := rate, enables := { a := enA, b := enB }, divisor := divisorApplied p.divisor } }

/-- A SCAN_SETUP is applied and its post completes (R13). -/
def applySetup (slot : Fin 32) (p : ScanSetupParams) (tag : Micros) (running : Bool) (d : Device) : Device :=
  let d := applySettings p tag running d
  settleLink
    (completeSlot slot .ok (d.board.setupDetail p)
      (scanFields d.scan.enables.a d.scan.enables.b d.scan.divisor tag) d)

/-- A SCAN_SETUP that waits for a frame start is applied, if there is one. It leaves the Executor as its application
begins, so that a fault of a record write it causes does not reach it (R13, R141). -/
def applyWaiting (tag : Micros) (running : Bool) (d : Device) : Device :=
  match d.exec with
  | some { slot := slot, work := .scanSetup p } => applySetup slot p tag running { d with exec := none }
  | _ => d

/-! ### Frame starts, frame ends and the stop (R4, R11, R12, R17) -/

/-- An enabled IDLE channel is put into SEARCH (R4 step 4, R22). -/
def wakeChannel (ch : Channel) (d : Device) : Device :=
  if d.scan.enables.get ch ∧ (d.ctx ch).state = .idle then
    d.setCtx ch ((d.ctx ch).forget .search d.profiles.defaultRev)
  else d

/-- The period of a frame that consumes this pending slip (R4 step 3, R17). -/
def framePeriod (rate : Rate) : Option Slip → Nat
  | none => rate.period
  | some .lead => rate.period + 40
  | some .lag => rate.period - 40

/-- The windows of a channel in the frame that starts. -/
def Device.windowsOf (d : Device) (ch : Channel) : Option ChannelWindows :=
  if d.scan.enables.get ch then some (placeWindows d.board (d.ctx ch)) else none

/-- A frame starts, in the order of R4: clock sampled, waiting SCAN_SETUP applied, period and slip, IDLE channels to
SEARCH, windows placed. -/
def startFrame (d : Device) : Device :=
  let tag := d.clock
  let d := wakeChannel .b (wakeChannel .a (applyWaiting tag true d))
  let f : Frame :=
    { timeTag := tag
      slipped := d.scan.slip.isSome
      period := framePeriod d.scan.rate d.scan.slip
      wins := { a := d.windowsOf .a, b := d.windowsOf .b } }
  { d with scan := { d.scan with engine := .running f, slip := none } }

/-- The engine stops at the end of this frame, in the order of R12. -/
def stopEngine (f : Frame) (d : Device) : Device :=
  let d := leaveTracking .b f.timeTag f.slipped (leaveTracking .a f.timeTag f.slipped d)
  let d := toIdle .b (toIdle .a d)
  let d := trackerFree { d with scan := { d.scan with engine := .stopped, elapsed := 0 } }
  applyWaiting d.clock false d

/-- The channels' steps at a frame's end, in the order of the list (R4, R9). The answer is the part, and whether all
have finished; if not, the boundary waits for the Solver's map reads (R40). -/
def runSteps : List Channel → Frame → Bool → Device → Device × Bool
  | [], _, _, d => (d, true)
  | ch :: rest, f, realign, d =>
    match f.results ch with
    | none => runSteps rest f realign d
    | some fr =>
      let st := stepChannel ch fr d
      match st.2 with
      | none => runSteps rest f realign st.1
      | some j =>
        let b : Boundary := { frame := f, realign := realign, job := j, todo := rest }
        let d := st.1
        (requestSolver { d with scan := { d.scan with engine := .boundary b } }, false)

/-- The end of a frame boundary once every context has finished its step: the frames-run counter, then the stop or the
next frame (R4), and what a realignment adds (R19, log entry 9). DESIGN CHOICE (log entry 36): the loss timer starts from 0
here, when the boundary closes, also where it has waited for map reads since the arrival. -/
def closeBoundary (f : Frame) (realign : Bool) (d : Device) : Device :=
  let run := d.regs.run
  let d := countFrame d
  let d := if run then startFrame d else stopEngine f d
  if realign then
    let d := countSlip d
    if run then { d with scan := { d.scan with tracker := .centre, lossElapsed := 0 } } else d
  else d

/-- A boundary goes on with the channels still to step. -/
def goBoundary (todo : List Channel) (f : Frame) (realign : Bool) (d : Device) : Device :=
  let r := runSteps todo f realign d
  if r.2 then closeBoundary f realign r.1 else r.1

/-! ### The Sync Tracker (R15, R16, R19) -/

/-- The phase error of an arrival t µs after the start of a frame of this period (R15). -/
def phaseError (t period : Nat) : Int := if 2 * t ≤ period then (t : Int) else (t : Int) - (period : Int)

/-- The tracker's new state and the slip it sets (R16). -/
def trackerMove (e : Int) (st : SyncState) : SyncState × Option Slip :=
  if e.natAbs ≤ 20 then (.centre, none)
  else if 0 < e then
    if 60 < e.natAbs ∧ st = .lead then (.centre, some .lead) else (.lead, none)
  else if 60 < e.natAbs ∧ st = .lag then (.centre, some .lag) else (.lag, none)

/-- An arrival while in step: measured, and the loss timer restarted (R15, R16). DESIGN CHOICE (log entry 36): from 0 when the
arrival is taken, also where a boundary deferred it. -/
def measureArrival (t : Nat) (f : Frame) (d : Device) : Device :=
  let m := trackerMove (phaseError t f.period) d.scan.tracker
  let d := { d with scan := { d.scan with tracker := m.1, lossElapsed := 0 } }
  match m.2 with
  | none => d
  | some s => countSlip { d with scan := { d.scan with slip := some s } }

/-- A sync arrival t µs after the start of the frame in progress is taken (R15, R16, R19). -/
def takeArrival (t : Nat) (d : Device) : Device :=
  match d.scan.engine with
  | .running f =>
    if d.scan.tracker = .free then
      goBoundary [.a, .b] { f with slipped := true } true
        { d with scan := { d.scan with elapsed := d.scan.elapsed - t } }
    else measureArrival t f d
  | _ => d

/-- Arrivals that came within a boundary are taken after it, in order (R4). base: the moment, in µs since that boundary,
at which the frame in progress started. -/
def takeArrivals : Nat → List Nat → Device → Device
  | _, [], d => d
  | base, t :: ts, d =>
    let base' := if d.scan.tracker = .free then t else base
    let d := takeArrival (t - base) d
    match d.scan.engine with
    | .boundary _ => { d with scan := { d.scan with arrivals := ts.map fun x => x - base' } }
    | _ => takeArrivals base' ts d

/-- After an event that may end a boundary: the arrivals that waited are taken (R4). -/
def afterBoundary (d : Device) : Device :=
  match d.scan.engine with
  | .boundary _ => d
  | _ => takeArrivals 0 d.scan.arrivals { d with scan := { d.scan with arrivals := [] } }

end Sys2Proof.Machine
end

