-- ==== Sys2Proof/Machine/Executor.lean ====
section
/-!
DEFINITION. The Command Executor (chapters 1, 4, 5, 8 and 11): how each post it carries out begins, goes on and ends.
-/
namespace Sys2Proof.Machine

open Sys2Proof

/-- A byte address is a multiple of n. -/
def aligned (n : Nat) (a : Addr) : Bool := a.toNat % n == 0

/-- The Executor takes a post as its current one (R141). -/
def setCurrent (slot : Fin 32) (w : Work) (d : Device) : Device :=
  { d with exec := some { slot := slot, work := w } }

/-- A post completes in the event that begins it: the Executor is idle again (R133, R141). -/
def completeAtOnce (slot : Fin 32) (st : Status) (dt : Detail) (fields : List Byte) (d : Device) : Device :=
  completeSlot slot st dt fields d

/-! ### CLOCK_SET, COUNTERS, SCAN_SETUP (R13, R183, R185) -/

/-- CLOCK_SET (R183). -/
def beginClockSet (slot : Fin 32) (value : BitVec 32) (d : Device) : Device :=
  completeAtOnce slot .ok .none (le 4 d.clock.toNat ++ le 4 value.toNat) { d with clock := value }

/-- COUNTERS: the check, then the wait for a bulk entry (R185). -/
def beginCounters (slot : Fin 32) (p : CountersParams) (d : Device) : Device :=
  if aligned 32 p.dest then setCurrent slot (.counters p.dest (p.flags.getLsbD 0)) d
  else completeAtOnce slot .rejected .align [] d

/-- SCAN_SETUP: the check, then applied at once or made to wait for a frame start (R13). -/
def beginScanSetup (slot : Fin 32) (p : ScanSetupParams) (d : Device) : Device :=
  match parseRate p.rate with
  | none => completeAtOnce slot .rejected .range [] d
  | some _ =>
    if d.scan.engine = .stopped then applySetup slot p d.clock false d
    else setCurrent slot (.scanSetup p) d

/-! ### CANCEL (R122, R123, R142, R143, R154) -/

/-- Completes each of these captures for reason CANCELLED, in order (R122). -/
def cancelEach : List Capture → Device → Device
  | [], d => d
  | c :: rest, d => cancelEach rest (completeCapture c .cancelled d)

/-- A mask meets a capture's mask. -/
def Capture.meets (c : Capture) (m : PerChannel Bool) : Bool := (c.mask.a && m.a) || (c.mask.b && m.b)

/-- A cancel request by mask: the answer is the number completed (R122). -/
def cancelByMask (m : PerChannel Bool) (d : Device) : Device × Nat :=
  let hit := d.delivery.captures.filter fun c => c.meets m
  (cancelEach hit d, hit.length)

/-- A cancel request for the trace (R142, R154). -/
def cancelHeldTrace (d : Device) : Device × Nat :=
  match d.trace with
  | some t => (endTrace .cancelled .none t d, 1)
  | none => (d, 0)

/-- A cancel request by slot index at the Trace Unit (R142, R154). -/
def cancelTraceAt (target : Fin 32) (d : Device) : Device × Nat :=
  match d.trace with
  | some t => if t.slot = target then (endTrace .cancelled .none t d, 1) else (d, 0)
  | none => (d, 0)

/-- A CANCEL completes with the number cancelled (R143). -/
def answerCancel (slot : Fin 32) (r : Device × Nat) : Device :=
  completeAtOnce slot .ok .none (cancelFields r.2) r.1

/-- The second request of a CANCEL by slot, unless an entry into HALTED has completed the CANCEL with FAULT (R142,
R143). -/
def cancelSecond (slot target : Fin 32) (d : Device) : Device :=
  match d.exec with
  | some _ => answerCancel slot (cancelTraceAt target { d with exec := none })
  | none => d

/-- CANCEL by slot: a request to the Delivery Unit, and after an answer of 0 one to the Trace Unit. Between the two the
Link Port settles, which is where an entry into HALTED can fall (R123, R142, R143, log entry 22). -/
def cancelBySlot (slot target : Fin 32) (d : Device) : Device :=
  match d.delivery.captures.find? (fun c => c.slot == target) with
  | some c => answerCancel slot (completeCapture c .cancelled d, 1)
  | none => cancelSecond slot target (settleLink (setCurrent slot (.cancelSlot target) d))

/-- CANCEL: the checks and the routing (R142). -/
def beginCancel (slot : Fin 32) (p : CancelParams) (d : Device) : Device :=
  match p.target.toNat with
  | 1 => match parseMask p.mask with
    | some m => answerCancel slot (cancelByMask m d)
    | none => completeAtOnce slot .rejected .range [] d
  | 2 => answerCancel slot (cancelHeldTrace d)
  | 3 =>
    if h : p.slot.toNat < 32 then cancelBySlot slot ⟨p.slot.toNat, h⟩ d
    else completeAtOnce slot .rejected .range [] d
  | _ => completeAtOnce slot .rejected .range [] d

/-! ### PROFILE (R84 to R92) -/

/-- The table holds an entry with the key. -/
def Profiles.holds (p : Profiles) (key : Half) : Bool := p.entries.any (fun e => e.key == key)

/-- A PROFILE post is rejected: its result gives the field index, the key as given and the number of entries (R91). -/
def rejectProfile (slot : Fin 32) (dt : Detail) (index : Nat) (key : Half) (d : Device) : Device :=
  completeAtOnce slot .rejected dt (profileFields index d.profiles.entries.length 0 key 0) d

/-- The read of a profile block (R85). -/
def blockRead (slot : Fin 32) (source : Addr) : ReadReq where
  site := .executor
  slot := some slot
  addr := source
  len := 64

/-- A LOAD or DEFAULT that has passed R84 reads its block (R85). -/
def startBlockRead (slot : Fin 32) (isDefault : Bool) (p : ProfileParams) (d : Device) : Device :=
  requestRead (blockRead slot p.source) (setCurrent slot (.profile isDefault p.key) d)

/-- LOAD's checks (R84). -/
def beginProfileLoad (slot : Fin 32) (p : ProfileParams) (d : Device) : Device :=
  if p.key = 0 then rejectProfile slot .range 0 p.key d
  else if !aligned 8 p.source then rejectProfile slot .align 0 p.key d
  else if !d.profiles.holds p.key && decide (8 ≤ d.profiles.entries.length) then
    rejectProfile slot .tableFull 0 p.key d
  else startBlockRead slot false p d

/-- REMOVE (R84, R88, R91). -/
def beginProfileRemove (slot : Fin 32) (p : ProfileParams) (d : Device) : Device :=
  if p.key = 0 then rejectProfile slot .range 0 p.key d
  else match d.profiles.entries.find? (fun e => e.key == p.key) with
  | none => rejectProfile slot .notFound 0 p.key d
  | some e =>
    let rest := d.profiles.entries.filter fun x => x.key != p.key
    completeAtOnce slot .ok .none (profileFields 0 rest.length 1 p.key e.rev)
      { d with profiles := { d.profiles with entries := rest } }

/-- CLEAR (R89, R91). -/
def beginProfileClear (slot : Fin 32) (d : Device) : Device :=
  completeAtOnce slot .ok .none (profileFields 0 0 d.profiles.entries.length 0 0)
    { d with profiles := { d.profiles with entries := [] } }

/-- DEFAULT's checks (R84). -/
def beginProfileDefault (slot : Fin 32) (p : ProfileParams) (d : Device) : Device :=
  if !aligned 8 p.source then rejectProfile slot .align 0 p.key d
  else startBlockRead slot true p d

/-- PROFILE, by its operation (R84). -/
def beginProfile (slot : Fin 32) (p : ProfileParams) (d : Device) : Device :=
  match p.op.toNat with
  | 1 => beginProfileLoad slot p d
  | 2 => beginProfileRemove slot p d
  | 3 => beginProfileClear slot d
  | 4 => beginProfileDefault slot p d
  | _ => rejectProfile slot .range 0 p.key d

/-- A key's entry replaced at a revision one higher, or created at revision 0; the answer gives the revision (R87). -/
def loadEntry (key : Half) (v : Profile) : List ProfileEntry → List ProfileEntry × BitVec 8
  | [] => ([{ key := key, rev := 0, profile := v }], 0)
  | e :: rest =>
    if e.key = key then ({ e with rev := e.rev + 1, profile := v } :: rest, e.rev + 1)
    else let r := loadEntry key v rest; (e :: r.1, r.2)

/-- A fetched block that has passed is applied (R87, R90, R91). -/
def applyProfile (isDefault : Bool) (key : Half) (v : Profile) (d : Device) : Device :=
  if isDefault then
    let rev := d.profiles.defaultRev + 1
    completePost .ok .none (profileFields 0 d.profiles.entries.length 0 0 rev)
      { d with profiles := { d.profiles with default := v, defaultRev := rev } }
  else
    let r := loadEntry key v d.profiles.entries
    completePost .ok .none (profileFields 0 r.1.length 0 key r.2)
      { d with profiles := { d.profiles with entries := r.1 } }

/-- The block of a LOAD or DEFAULT has arrived and is checked (R86). -/
def profileBlock (isDefault : Bool) (key : Half) (bytes : List Byte) (d : Device) : Device :=
  match (parseProfile bytes).firstBad with
  | some n => completePost .rejected .badProfile (profileFields n d.profiles.entries.length 0 key 0) d
  | none => applyProfile isDefault key (parseProfile bytes) d

/-! ### MAP_LOAD (R73 to R76) -/

/-- The read of a MAP_LOAD's next piece: up to 16 entries of 8 bytes (R74). -/
def pieceRead (slot : Fin 32) (w : MapLoadWork) : ReadReq where
  site := .executor
  slot := some slot
  addr := w.source + BitVec.ofNat 64 (8 * w.written)
  len := 8 * min 16 (w.count - w.written)

/-- A MAP_LOAD completes: FINAL makes the map READY (R76). -/
def finishMapLoad (w : MapLoadWork) (d : Device) : Device :=
  completePost .ok .none w.fields (if w.final then { d with map := { d.map with state := .ready } } else d)

/-- CLEAR: the map becomes ABSENT and a waiting scrub request is withdrawn (R72, R74). -/
def clearMap (d : Device) : Device :=
  withdrawScrub { d with map := { d.map with state := .absent } }

/-- The first check of R73 that fails. -/
def mapLoadReject (b : Board) (p : MapParams) : Option Detail :=
  if 1024 < p.count.toNat then some .range
  else if p.count = 0 ∧ ¬p.flags.getLsbD 0 then some .range
  else if b.nodeCount < p.start.toNat + p.count.toNat then some .range
  else if p.count ≠ 0 ∧ ¬aligned 8 p.addr then some .align
  else none

/-- MAP_LOAD: the checks, CLEAR, and the first piece read (R73, R74). -/
def beginMapLoad (slot : Fin 32) (p : MapParams) (d : Device) : Device :=
  match mapLoadReject d.board p with
  | some dt => completeAtOnce slot .rejected dt [] d
  | none =>
    let w : MapLoadWork :=
      { start := p.start.toNat, count := p.count.toNat, source := p.addr, final := p.flags.getLsbD 1,
        written := 0, clamped := 0, verify := 0, entries := [] }
    let d := setCurrent slot (.mapLoad w) (if p.flags.getLsbD 0 then clearMap d else d)
    if p.count = 0 then finishMapLoad w d else requestRead (pieceRead slot w) d

/-- The head entry of a MAP_LOAD is limited and counted, and then the grant for its node is requested (R75; one entry at a
time, log entry 35). -/
def requestWrite (w : MapLoadWork) (d : Device) : Device := requestExec (setWork (.mapLoad w.limitHead) d)

/-- A MAP_LOAD goes on after a node write: the next entry, the next piece, or completion (R74 to R76). -/
def continueMapLoad (d : Device) : Device :=
  match d.exec with
  | some { slot := slot, work := .mapLoad w } =>
    match w.entries with
    | _ :: _ => requestWrite w d
    | [] => if w.count ≤ w.written then finishMapLoad w d else requestRead (pieceRead slot w) d
  | _ => d

/-- A fetched piece: the writes of its nodes begin (R74, R75). -/
def mapPiece (w : MapLoadWork) (bytes : List Byte) (d : Device) : Device :=
  requestWrite { w with entries := sourceEntries bytes (bytes.length / 8) } d

/-! ### MAP_READ (R78, R79) -/

/-- The first check of R78 that fails. -/
def mapReadReject (b : Board) (p : MapParams) : Option Detail :=
  if ¬(1 ≤ p.count.toNat ∧ p.count.toNat ≤ 1024) then some .range
  else if b.nodeCount < p.start.toNat + p.count.toNat then some .range
  else if ¬aligned 8 p.addr then some .align
  else none

/-- MAP_READ: the checks and the first read (R78). -/
def beginMapRead (slot : Fin 32) (p : MapParams) (d : Device) : Device :=
  match mapReadReject d.board p with
  | some dt => completeAtOnce slot .rejected dt [] d
  | none =>
    let w : MapReadWork :=
      { start := p.start.toNat, count := p.count.toNat, dest := p.addr, done := 0, corrected := 0,
        uncorrectable := 0, group := [] }
    requestExec (setCurrent slot (.mapRead w) d)

/-- A MAP_READ goes on after a node read: the next node of the group, or the wait for a bulk entry (R78). DESIGN CHOICE (log
entry 34): at the end of a group the arbiter grants a request that waits before the group's write is offered an entry, and so
before the next group's first request is placed. -/
def continueMapRead (d : Device) : Device :=
  match d.exec with
  | some { work := .mapRead w, .. } => if w.groupReady then arbitrate d else requestExec d
  | _ => d

/-! ### The posts together -/

/-- The Executor begins a post that has become its current one (R141). -/
def beginPost (slot : Fin 32) (p : Post) (d : Device) : Device :=
  match p with
  | .profile q => beginProfile slot q d
  | .mapLoad q => beginMapLoad slot q d
  | .mapRead q => beginMapRead slot q d
  | .scanSetup q => beginScanSetup slot q d
  | .counters q => beginCounters slot q d
  | .cancel q => beginCancel slot q d
  | .clockSet v => beginClockSet slot v d
  | .capture _ => d
  | .trace _ => d

end Sys2Proof.Machine
end

