-- ==== Sys2Proof/Machine/Resets.lean ====
section
/-!
DEFINITION. The three resets (R20, R38, R60, R80, R94, R111, R125, R144, R156, R172, R188): each sets every unit as the
chapter that owns it gives.
-/
namespace Sys2Proof.Machine

open Sys2Proof

/-- A channel context after a reset: its last seen profile is DEFAULT at the default revision as it stands (R38,
R94). -/
def Context.afterReset (defaultRev : BitVec 8) : Context := { Context.initial with lastRev := defaultRev }

/-- The Register Window after a reset that leaves this TABLE BASE (R188). -/
def Registers.afterReset (base : Addr) : Registers := { Registers.initial with tableBase := base }

/-- The Correction Map after a link or soft reset: words and map state stay, the rest is set (R80). -/
def CorrectionMap.afterReset (m : CorrectionMap) : CorrectionMap :=
  { CorrectionMap.initial with nodes := m.nodes, state := m.state }

/-- The Link Port after a link or soft reset with these inputs: everything it keeps is discarded (R172). The model's
own fields go on. -/
def LinkPort.afterReset (l : LinkPort) (inputs : LinkInputs) : LinkPort where
  inputs := inputs
  inFlight := none
  waiting := []
  buffer := []
  issued := false
  slotQueue := []
  halted := false
  faultRecord := none
  sent := l.sent
  choices := l.choices

/-- What a link reset and a soft reset have in common. A grant in progress at the map port completes first (R61,
R80); the profiles and the stroke clock are kept (R94, R188). -/
def commonReset (base : Addr) (inputs : LinkInputs) (d : Device) : Device :=
  let d := settleGrant d
  { d with
    chans := { a := Context.afterReset d.profiles.defaultRev, b := Context.afterReset d.profiles.defaultRev }
    map := d.map.afterReset
    delivery := { holding := [], captures := [] }
    intake := Intake.initial
    exec := none
    trace := none
    link := d.link.afterReset inputs
    regs := Registers.afterReset base
    counters := Counters.zero }

/-- The Scan Engine after a soft reset: rate, enables and hover divisor stay (R20). -/
def ScanEngine.afterSoftReset (e : ScanEngine) : ScanEngine :=
  { ScanEngine.initial with rate := e.rate, enables := e.enables, divisor := e.divisor }

/-- A soft reset (R177). The board word and the link inputs stand. -/
def softReset (d : Device) : Device :=
  let e := commonReset d.regs.tableBase d.link.inputs d
  { e with scan := d.scan.afterSoftReset }

/-- The map state after a link reset: a changed grid makes it ABSENT (R64, R187). -/
def gridMapState (old new : Board) (st : MapState) : MapState :=
  if old.nx4 = new.nx4 ∧ old.ny4 = new.ny4 then st else .absent

/-- A link reset: the board word is taken again and the units take their link-reset values (R187). -/
def linkReset (word : BitVec 16) (inputs : LinkInputs) (d : Device) : Device :=
  let board := Board.ofWord word
  let e := commonReset 0 inputs d
  { e with
    board := board
    scan := ScanEngine.initial
    map := { e.map with state := gridMapState d.board board e.map.state } }

/-- Power-on: every unit takes its power-on value; what has gone out on the link before, and the number of free
choices made, stay in the model's own fields (R187). -/
def powerOnReset (word : BitVec 16) (inputs : LinkInputs) (d : Device) : Device :=
  let e := Device.initial (Board.ofWord word) inputs
  { e with link := { e.link with sent := d.link.sent, choices := d.link.choices } }

end Sys2Proof.Machine
end

