-- ==== Sys2Proof/Machine/Intake.lean ====
section
/-!
DEFINITION. The Post Intake (chapter 8): sweeps, the walk, taking and rejecting slots, and the checks of CAPTURE and
TRACE posts.
-/
namespace Sys2Proof.Machine

open Sys2Proof

/-- The sweep in progress takes a value. -/
def setSweep (sw : Option Sweep) (d : Device) : Device :=
  { d with intake := { d.intake with sweep := sw } }

/-! ### The start and the end of a sweep (R130, R131, R135) -/

/-- A write of a strip word: a TAKEN or a DONE write (R190). -/
def HostWrite.isStrip (w : HostWrite) : Bool :=
  match w.role with
  | .taken _ => true
  | .done _ _ => true
  | _ => false

/-- How many of the oldest entries must leave until no strip write of these is left: the place of the last one
(R131). -/
def stripsAhead : List HostWrite → Nat
  | [] => 0
  | w :: ws =>
    if stripsAhead ws ≠ 0 then stripsAhead ws + 1 else if w.isStrip then 1 else 0

/-- The strip read under a base (R131). -/
def stripRead (base : Addr) : ReadReq where
  site := .sweep
  slot := none
  addr := base
  len := 128

/-- A sweep starts: it notes the strip writes in the buffer, and asks for its strip read when none stands there
(R131). -/
def startSweep (d : Device) : Device :=
  let base := d.regs.tableBase
  match stripsAhead d.link.buffer with
  | 0 =>
    requestRead (stripRead base)
      (setSweep (some { base := base, phase := .strip, snapshot := [], held := [], ending := false }) d)
  | n + 1 =>
    setSweep (some { base := base, phase := .waitStrips (n + 1), snapshot := [], held := [], ending := false }) d

/-- A sweep can start now (R129, R130). -/
def Device.canSweep (d : Device) : Bool := d.regs.intake && !d.link.halted

/-- The sweep ends; prompt pending is served (R130, R135). -/
def endSweep (d : Device) : Device :=
  let pending := d.intake.promptPending
  let d := { d with intake := { d.intake with sweep := none, promptPending := false } }
  if pending && d.canSweep then startSweep d else d

/-- The sweep ends, unless an entry into HALTED has already ended it (R140). -/
def sweepDone (d : Device) : Device :=
  match d.intake.sweep with
  | none => d
  | some _ => endSweep d

/-- An entry has left the buffer: a sweep that waits for strip writes counts it, and asks for its strip read when the
last one has left (R131). -/
def sweepEntryLeft (d : Device) : Device :=
  match d.intake.sweep with
  | some sw => match sw.phase with
    | .waitStrips n =>
      if n ≤ 1 then requestRead (stripRead sw.base) (setSweep (some { sw with phase := .strip }) d)
      else setSweep (some { sw with phase := .waitStrips (n - 1) }) d
    | _ => d
  | none => d

/-! ### Taking and rejecting (R136, R137) -/

/-- The rotation index takes a value. -/
def setRotation (slot : Fin 32) (d : Device) : Device :=
  { d with intake := { d.intake with rotation := slot } }

/-- A slot is taken: mark, TAKEN write, the post handed on; then the rotation index (R136). -/
def takeSlot (m : SlotMark) (handOn : Device → Device) (d : Device) : Device :=
  settleLink (setRotation m.slot (handOn (grants (handOver [takenWrite m] (setMark m d)))))

/-- A slot is rejected: mark, result write, DONE write; then the rotation index (R137). -/
def rejectSlot (m : SlotMark) (dt : Detail) (d : Device) : Device :=
  settleLink (setRotation m.slot (handOver [resultWrite m .rejected dt [], doneWrite m] (setMark m d)))

/-! ### CAPTURE (R112, R113) -/

/-- The first check of R112 that fails. -/
def captureReject (p : CaptureParams) : Option Detail :=
  if p.capacity = 0 then some .range
  else if (parseMask p.mask).isNone then some .range
  else if !aligned 32 p.buffer then some .align
  else none

/-- The capture a CAPTURE post opens, capacity and timeout limited (R112, R113). -/
def newCapture (slot : Fin 32) (p : CaptureParams) : Capture where
  slot := slot
  buffer := p.buffer
  capacity := min p.capacity.toNat 4096
  mask := (parseMask p.mask).getD { a := false, b := false }
  endOnLift := p.endFlags.getLsbD 0
  endOnProxOut := p.endFlags.getLsbD 1
  timeout := min p.timeout.toNat 32767
  count := 0
  last := none
  elapsed := 0

/-- A capture opens at the newest end of the Capture Queue, and the Holding Queue is drained (R113). -/
def openCapture (slot : Fin 32) (p : CaptureParams) (d : Device) : Device :=
  drainWalk { d with delivery := { d.delivery with captures := d.delivery.captures ++ [newCapture slot p] } }

/-- A CAPTURE whose body has been read is rejected or taken (R112, R134). -/
def handleCapture (m : SlotMark) (p : CaptureParams) (d : Device) : Device :=
  match captureReject p with
  | some dt => rejectSlot m dt d
  | none => takeSlot m (openCapture m.slot p) d

/-! ### TRACE (R145, R146) -/

/-- The first check of R145 that fails. -/
def traceReject (p : TraceParams) : Option Detail :=
  if (parseChannel p.channel).isNone then some .range
  else if (parseTrigger p.trigger).isNone then some .range
  else if parseTrigger p.trigger = some .pressureAbove ∧ ¬(1 ≤ p.level.toNat ∧ p.level.toNat ≤ 16383) then some .range
  else if 15 < p.pre.toNat then some .range
  else if ¬(1 ≤ p.post.toNat ∧ p.post.toNat ≤ 240) then some .range
  else if p.capacity.toNat < p.pre.toNat + 1 then some .range
  else if !aligned 32 p.dest then some .align
  else none

/-- The post count applied (R145). -/
def postApplied (p : TraceParams) : Nat :=
  if p.capacity.toNat < p.pre.toNat + p.post.toNat then p.capacity.toNat - p.pre.toNat else p.post.toNat

/-- The trace a TRACE post arms (R146). -/
def newTrace (slot : Fin 32) (p : TraceParams) : TraceJob where
  slot := slot
  ch := (parseChannel p.channel).getD .a
  trigger := (parseTrigger p.trigger).getD .immediate
  level := p.level.toNat
  pre := p.pre.toNat
  post := postApplied p
  dest := p.dest
  capturing := false
  ring := []
  staging := []
  toTake := 0
  written := 0
  preWritten := 0
  trigTag := none
  channelOff := false

/-- The Trace Unit arms (R146). -/
def armTrace (slot : Fin 32) (p : TraceParams) (d : Device) : Device :=
  { d with trace := some (newTrace slot p) }

/-- A TRACE whose body has been read is rejected or taken (R134, R145). -/
def handleTrace (m : SlotMark) (p : TraceParams) (d : Device) : Device :=
  match traceReject p with
  | some dt => rejectSlot m dt d
  | none => takeSlot m (armTrace m.slot p) d

/-- A post whose body has been read and has its strip word's kind (R134). -/
def handlePost (m : SlotMark) (p : Post) (d : Device) : Device :=
  match p with
  | .capture q => handleCapture m q d
  | .trace q => handleTrace m q d
  | q => takeSlot m (beginPost m.slot q) d

/-- A kind the Command Executor carries out (R133). -/
def executorKind (k : Byte) : Bool :=
  decide (2 ≤ k.toNat) && decide (k.toNat ≤ 9) && k != 6

/-- The unit a post of this kind needs has no room for it: a full Capture Queue or a busy Executor (R133, tests 4
and 5). -/
def Device.noRoom (d : Device) (k : Byte) : Bool :=
  (k == 1 && decide (16 ≤ d.delivery.captures.length)) || (executorKind k && d.exec.isSome)

/-- A post found in a body is settled: skipped while its unit has no room, rejected with BUSY while the Trace Unit is not
IDLE, and otherwise handled on its body. The answer is none for a slot that is passed over. The walk has made these tests
before the body was read, and in a run from reset they hold still (R133, R134). -/
def settlePost (m : SlotMark) (p : Post) (d : Device) : Option Device :=
  if d.noRoom (postKind p) then none
  else if postKind p = 6 ∧ d.trace.isSome then some (rejectSlot { m with notify := true } .busy d)
  else some (handlePost m p d)

/-- A slot whose body has been read is settled: p is the post the body holds, none where its kind is not the strip word's
(R134). A slot in flight is never taken or rejected (R138). -/
def settleBody (m : SlotMark) (p : Option Post) (d : Device) : Option Device :=
  if d.isInFlight m.slot then none
  else match p with
  | some q => settlePost m q d
  | none => some (rejectSlot m .unknownKind d)

/-! ### The walk (R132, R133, R135) -/

/-- The slots in the order a walk visits them (R132). -/
def rotationOrder (rotation : Fin 32) : List (Fin 32) :=
  (List.range 32).map fun i => Fin.ofNat 32 (rotation.val + 1 + i)

/-- What a visit to a slot settles on. -/
inductive Visit where
  /-- passed over, ignored or skipped -/
  | pass
  /-- rejected on the strip word alone -/
  | reject (dt : Detail)
  | readBody
  deriving DecidableEq, Repr

/-- The tests of R133, in their order. -/
def visit (sw : Sweep) (slot : Fin 32) (d : Device) : Visit :=
  let w := sw.snapshot.getD slot.val 0
  let k := stripKind w
  if stripState w ≠ 1 then .pass
  else if sw.held.contains slot || d.isInFlight slot then .pass
  else if ¬(1 ≤ k.toNat ∧ k.toNat ≤ 9) then .reject .unknownKind
  else if d.noRoom k then .pass
  else if k = 6 ∧ d.trace.isSome then .reject .busy
  else .readBody

/-- The mark of a slot of a sweep (R126, R136). -/
def Sweep.mark (sw : Sweep) (slot : Fin 32) (notify : Bool) : SlotMark where
  slot := slot
  base := sw.base
  kind := stripKind (sw.snapshot.getD slot.val 0)
  notify := notify

/-- The read of a slot's body (R134). -/
def bodyRead (base : Addr) (slot : Fin 32) : ReadReq where
  site := .body
  slot := some slot
  addr := bodyAddr base slot
  len := 64

/-- The walk over the slots still to visit. It stops at a slot whose body is to be read, after a slot rejected in
SINGLE mode, when INTAKE was written 0, and when a fault has ended the sweep (R132 to R135, R140). -/
def walk : List (Fin 32) → Device → Device
  | [], d => sweepDone d
  | slot :: rest, d =>
    match d.intake.sweep with
    | none => d
    | some sw =>
      if sw.ending then endSweep d
      else match visit sw slot d with
      | .pass => walk rest d
      | .reject dt =>
        let d := rejectSlot (sw.mark slot true) dt d
        if d.regs.batch then walk rest d else sweepDone d
      | .readBody => requestRead (bodyRead sw.base slot) (setSweep (some { sw with phase := .body slot rest }) d)

/-- The strip read has completed: snapshot and in-flight slots are fixed and the walk begins (R131, R132). -/
def stripComplete (bytes : List Byte) (d : Device) : Device :=
  match d.intake.sweep with
  | none => d
  | some sw =>
    walk (rotationOrder d.intake.rotation)
      (setSweep
        (some { sw with snapshot := words32 32 bytes, held := d.intake.inFlight.map fun m => m.slot }) d)

/-- The post a body holds, if its kind is the strip word's (R134). -/
def bodyPost (kind : Byte) (bytes : List Byte) : Option Post := if bodyKind bytes = kind then parseBody kind bytes else none

/-- The sweep goes on from a slot that has been settled: after one taken or rejected it ends in SINGLE mode and walks on in
BATCH mode, and after one passed over it walks on in either (R135). -/
def sweepGoesOn (rest : List (Fin 32)) (d : Device) : Option Device → Device
  | none => walk rest d
  | some t => if t.regs.batch then walk rest t else sweepDone t

/-- A body read has completed: the slot the sweep waits at is settled, and the sweep goes on (R134, R135). post: what the
body holds for the slot's strip kind; notify: its NOTIFY flag. -/
def bodyComplete (post : Byte → Option Post) (notify : Bool) (d : Device) : Device :=
  match d.intake.sweep with
  | none => d
  | some sw => match sw.phase with
    | .body slot rest =>
      let m := sw.mark slot notify
      sweepGoesOn rest d (settleBody m (post m.kind) d)
    | _ => d

/-- What follows the handing on of a completed read's data: the next read is issued, and the Link Port settles
(R159). DESIGN CHOICE (log entry 40): in this order, so a read that waits is issued, or its fault taken, before the writes a
completed PROFILE post handed over are granted entries and the head is issued. -/
def afterRead (d : Device) : Device := settleLink (pumpReads d)

/-! ### A post as a command of its own (log entry 10) -/

/-- The sweep in progress waits for the body of this slot, whose strip word has this kind, and the read in flight is a body
read. -/
def Device.awaitsBody (d : Device) (slot : Fin 32) (kind : Byte) : Bool :=
  match d.intake.sweep, d.link.inFlight with
  | some sw, some f => match sw.phase with
    | .body k _ => k == slot && (sw.mark k false).kind == kind && f.req.site == .body
    | _ => false
  | _, _ => false

/-- A post row: the body read that a sweep waits for at this slot completes, and the body holds this post. With no sweep
waiting there the part has read no such post, and nothing changes. -/
def postFound (slot : Fin 32) (notify : Bool) (p : Post) (d : Device) : Device :=
  if d.awaitsBody slot (postKind p) then afterRead (bodyComplete (fun _ => some p) notify (endRead d)) else d

end Sys2Proof.Machine
end

