-- ==== Sys2Proof/Machine/IntakeCommands.lean ====
section
/-!
DEFINITION. The commands of the Post Intake and of the reads it and the Executor wait for, and the idle timers of
captures.
-/
namespace Sys2Proof.Machine

open Sys2Proof

/-- The sweep timer has run 1 ms: a sweep starts if INTAKE is 1, the part is not HALTED and none is in progress
(R129). -/
def sweepExpiry (d : Device) : Device :=
  if 1000 ≤ d.intake.elapsed then
    let d := { d with intake := { d.intake with elapsed := d.intake.elapsed - 1000 } }
    if d.canSweep && d.intake.sweep.isNone then startSweep d else d
  else d

/-- SWEEP_TIMER_EXPIRY (R129). -/
def execSweepTimerExpiry (s : State) : Host.Outcome State Fault Refusal :=
  effect sweepExpiry s

/-- The strip read completes (R131, R159). -/
def stripArrived (bytes : List Byte) (d : Device) : Device :=
  if d.readMatches .sweep bytes then afterRead (stripComplete bytes (endRead d)) else d

/-- STRIP_READ_COMPLETE (R131). -/
def execStripReadComplete (bytes : List Byte) (s : State) : Host.Outcome State Fault Refusal :=
  effect (stripArrived bytes) s

/-- The body read completes (R134, R159). -/
def bodyArrived (bytes : List Byte) (d : Device) : Device :=
  if d.readMatches .body bytes then
    afterRead (bodyComplete (fun kind => bodyPost kind bytes) (bodyNotify bytes) (endRead d))
  else d

/-- BODY_READ_COMPLETE (R134). -/
def execBodyReadComplete (bytes : List Byte) (s : State) : Host.Outcome State Fault Refusal :=
  effect (bodyArrived bytes) s

/-- The profile block read of the Executor's PROFILE post completes (R86, R159). -/
def blockArrived (bytes : List Byte) (d : Device) : Device :=
  match d.exec with
  | some { work := .profile isDefault key, .. } =>
    if d.readMatches .executor bytes then afterRead (profileBlock isDefault key bytes (endRead d)) else d
  | _ => d

/-- PROFILE_BLOCK_READ_COMPLETE (R86). -/
def execProfileBlockReadComplete (bytes : List Byte) (s : State) : Host.Outcome State Fault Refusal :=
  effect (blockArrived bytes) s

/-- A piece read of the Executor's MAP_LOAD post completes (R74, R159). -/
def pieceArrived (bytes : List Byte) (d : Device) : Device :=
  match d.exec with
  | some { work := .mapLoad w, .. } =>
    if d.readMatches .executor bytes then afterRead (mapPiece w bytes (endRead d)) else d
  | _ => d

/-- MAP_PIECE_READ_COMPLETE (R74). -/
def execMapPieceReadComplete (bytes : List Byte) (s : State) : Host.Outcome State Fault Refusal :=
  effect (pieceArrived bytes) s

/-- A capture's idle timer has run its timeout (R118). -/
def Capture.expired (c : Capture) : Bool := c.timeout != 0 && decide (c.timeout * 1000 ≤ c.elapsed)

/-- The idle timer of the capture at a slot expires: it completes for reason TIMEOUT (R118, R120). While HALTED the
timers are paused. -/
def idleExpiry (slot : Fin 32) (d : Device) : Device :=
  match d.delivery.captures.find? (fun c => c.slot == slot) with
  | some c => if c.expired && !d.link.halted then settleLink (completeCapture c .timeout d) else d
  | none => d

/-- IDLE_TIMEOUT (R118). -/
def execIdleTimeout (slot : Fin 32) (s : State) : Host.Outcome State Fault Refusal :=
  effect (idleExpiry slot) s

end Sys2Proof.Machine
end

