-- ==== Sys2Proof/Machine/LinkCommands.lean ====
section
/-!
DEFINITION. The commands of the link: writes accepted, reads that fail, the link state and the PCIe configuration.
-/
namespace Sys2Proof.Machine

open Sys2Proof

/-- The DONE write of a NOTIFY slot has left the buffer (R139). -/
def doneCause (w : HostWrite) (d : Device) : Device :=
  match w.role with
  | .done _ true => setCause .done d
  | _ => d

/-- The head leaves the buffer (R161). -/
def popHead (w : HostWrite) (rest : List HostWrite) (d : Device) : Device :=
  { d with link := { d.link with buffer := rest, issued := false, sent := .write w :: d.link.sent } }

/-- The link accepts the head's write: the entry leaves and frees, EVENT.DONE follows a DONE write, a sweep that waits
counts it, and the freed entry is granted (R131, R139, R161, R163). -/
def acceptHead (d : Device) : Device :=
  match d.link.buffer with
  | [] => d
  | w :: rest =>
    if d.link.issued then settleLink (sweepEntryLeft (doneCause w (popHead w rest d))) else d

/-- WRITE_ACCEPTED (R161). -/
def execWriteAccepted (s : State) : Host.Outcome State Fault Refusal :=
  effect acceptHead s

/-- The read in flight ends with a fault of this class (R160, R165). -/
def readFault (cls : FaultClass) (d : Device) : Device :=
  match d.link.inFlight with
  | some f => raiseFault cls f.req.site f.req.slot (endRead d)
  | none => d

/-- The settling that follows a fault or a change of the link. -/
def readFails (cls : FaultClass) (d : Device) : Device := settleLink (readFault cls d)

/-- READ_ERROR (R160). -/
def execReadError (s : State) : Host.Outcome State Fault Refusal :=
  effect (readFails .readError) s

/-- The read timer of the read in flight has run 10 ms (R159, R160). -/
def readTimerExpiry (d : Device) : Device :=
  match d.link.inFlight with
  | some f => if 10000 ≤ f.elapsed then readFails .readTimeout d else d
  | none => d

/-- READ_TIMEOUT (R160). -/
def execReadTimeout (s : State) : Host.Outcome State Fault Refusal :=
  effect readTimerExpiry s

/-- The link state and whether the head is being issued take values. -/
def setLinkState (up : Bool) (d : Device) : Device :=
  { d with link := { d.link with inputs := { d.link.inputs with up := up }, issued := d.link.issued && up } }

/-- The link state becomes DOWN outside HALTED: the read in flight faults, or else a buffer that holds a write (R165,
R166). -/
def downFault (d : Device) : Device :=
  if d.link.halted then d
  else match d.link.inFlight with
  | some _ => readFault .linkDown d
  | none => if d.link.buffer.isEmpty then d else raiseFault .linkDown .drain none d

/-- LINK_DOWN: a link that is DOWN already does not become so (R165). -/
def linkFalls (d : Device) : Device := if d.link.inputs.up then downFault (setLinkState false d) else d

/-- LINK_DOWN (R165, R166). -/
def execLinkDown (s : State) : Host.Outcome State Fault Refusal :=
  effect linkFalls s

/-- The link state becomes ACTIVE: a pending message and a head that waits can be issued (R166, R170, R180). DESIGN CHOICE
(log entry 33): the message goes first. -/
def linkRises (d : Device) : Device := settleLink (sendPending (setLinkState true d))

/-- LINK_UP (R166). -/
def execLinkUp (s : State) : Host.Outcome State Fault Refusal :=
  effect linkRises s

/-- The bus mastering enable takes a value; a message pending and a head that waits go as at linkRises (R166, R170, R180, log
entry 33). -/
def masteringChange (on : Bool) (d : Device) : Device :=
  settleLink (sendPending { d with link := { d.link with inputs := { d.link.inputs with mastering := on } } })

/-- BUS_MASTERING_CHANGE (R166). -/
def execBusMasteringChange (on : Bool) (s : State) : Host.Outcome State Fault Refusal :=
  effect (masteringChange on) s

/-- Completion data for a read that has ended is discarded (R160). -/
def staleData (_bytes : List Byte) (d : Device) : Device := d

/-- STALE_READ_COMPLETION (R160). -/
def execStaleReadCompletion (bytes : List Byte) (s : State) : Host.Outcome State Fault Refusal :=
  effect (staleData bytes) s

/-- The message interrupt configuration takes values; a pending message follows them (R157, R180, log entry 8). -/
def msiChange (on : Bool) (addr : Addr) (data : BitVec 32) (d : Device) : Device :=
  sendPending
    { d with link := { d.link with inputs := { d.link.inputs with msiOn := on, msiAddr := addr, msiData := data } } }

/-- MESSAGE_INTERRUPT_ENABLE_CHANGE (R180). -/
def execMessageInterruptEnableChange (on : Bool) (addr : Addr) (data : BitVec 32) (s : State) :
    Host.Outcome State Fault Refusal :=
  effect (msiChange on addr data) s

end Sys2Proof.Machine
end

