-- ==== Sys2Proof/Machine/MapCommands.lean ====
section
/-!
DEFINITION. The commands of the map port: the scrubber, the Executor's node accesses, and bit flips.
-/
namespace Sys2Proof.Machine

open Sys2Proof

/-- The scrubber places its request, when the map is READY and none waits (R70). -/
def scrubRequest (d : Device) : Device :=
  if d.map.state = .ready ∧ d.map.scrubWaiting = false then
    arbitrate { d with map := { d.map with scrubWaiting := true } }
  else d

/-- The scrub timer has run 1 ms (R70). -/
def scrubExpiry (d : Device) : Device :=
  if 1000 ≤ d.map.scrubElapsed then
    scrubRequest { d with map := { d.map with scrubElapsed := d.map.scrubElapsed - 1000 } }
  else d

/-- SCRUB_TIMER_EXPIRY (R70). -/
def execScrubTimerExpiry (s : State) : Host.Outcome State Fault Refusal :=
  effect scrubExpiry s

/-- The grant in progress is carried out, when it is the scrubber's (R65, R71). -/
def scrubGrant (d : Device) : Device :=
  match d.map.grant with
  | some g => match g.who with
    | .scrubber => arbitrate (answerScrub g d)
    | _ => d
  | none => d

/-- SCRUB (R71). -/
def execScrub (s : State) : Host.Outcome State Fault Refusal :=
  effect scrubGrant s

/-- The Executor holds a MAP_LOAD. -/
def Device.loadsMap (d : Device) : Bool :=
  match d.exec with
  | some { work := .mapLoad _, .. } => true
  | _ => false

/-- The Executor holds a MAP_READ. -/
def Device.readsMap (d : Device) : Bool :=
  match d.exec with
  | some { work := .mapRead _, .. } => true
  | _ => false

/-- The grant in progress is carried out, when it is a MAP_LOAD's; the next node or piece follows (R65, R75, R76). -/
def loadGrant (d : Device) : Device :=
  match d.map.grant with
  | some g => match g.who with
    | .executor => if d.loadsMap then settleLink (arbitrate (continueMapLoad (answerExec g d))) else d
    | _ => d
  | none => d

/-- MAP_LOAD_NODE_WRITE (R75). -/
def execMapLoadNodeWrite (s : State) : Host.Outcome State Fault Refusal :=
  effect loadGrant s

/-- The grant in progress is answered, when it is a MAP_READ's; the next node, or the group's bulk entry, follows
(R65, R78). -/
def readGrant (d : Device) : Device :=
  match d.map.grant with
  | some g => match g.who with
    | .executor => if d.readsMap then settleLink (arbitrate (continueMapRead (answerExec g d))) else d
    | _ => d
  | none => d

/-- MAP_READ_NODE_READ (R78). -/
def execMapReadNodeRead (s : State) : Host.Outcome State Fault Refusal :=
  effect readGrant s

/-- The word with one bit flipped (R62). -/
def NodeWord.flip (w : NodeWord) (b : Fin 39) : NodeWord := { w with flips := w.flips ^^^ BitVec.twoPow 39 b.val }

/-- A bit of a stored word flips (R62). -/
def flipBit (node : Fin 1024) (b : Fin 39) (d : Device) : Device :=
  { d with map := { d.map with nodes := storeNode d.map.nodes node.val ((readNode d.map.nodes node.val).flip b) } }

/-- MAP_BIT_FLIP (R62). -/
def execMapBitFlip (node : Fin 1024) (b : Fin 39) (s : State) : Host.Outcome State Fault Refusal :=
  effect (flipBit node b) s

end Sys2Proof.Machine
end

