-- ==== Sys2Proof/Machine/PostCommands.lean ====
section
/-!
DEFINITION. The commands that are posts: each is the completion of the body read a sweep waits for, with the body holding
this post (log entry 10).
-/
namespace Sys2Proof.Machine

open Sys2Proof

/-- CAPTURE (R112, R113). -/
def execCapture (slot : Fin 32) (notify : Bool) (p : CaptureParams) (s : State) : Host.Outcome State Fault Refusal :=
  effect (postFound slot notify (.capture p)) s

/-- TRACE (R145, R146). -/
def execTrace (slot : Fin 32) (notify : Bool) (p : TraceParams) (s : State) : Host.Outcome State Fault Refusal :=
  effect (postFound slot notify (.trace p)) s

/-- SCAN_SETUP (R13, R14). -/
def execScanSetup (slot : Fin 32) (notify : Bool) (p : ScanSetupParams) (s : State) :
    Host.Outcome State Fault Refusal :=
  effect (postFound slot notify (.scanSetup p)) s

/-- PROFILE with operation LOAD (R84, R85, R87). -/
def execProfileLoad (slot : Fin 32) (notify : Bool) (key : Half) (source : Addr) (s : State) :
    Host.Outcome State Fault Refusal :=
  effect (postFound slot notify (.profile { op := 1, key := key, source := source })) s

/-- PROFILE with operation REMOVE (R84, R88). -/
def execProfileRemove (slot : Fin 32) (notify : Bool) (key : Half) (s : State) : Host.Outcome State Fault Refusal :=
  effect (postFound slot notify (.profile { op := 2, key := key, source := 0 })) s

/-- PROFILE with operation CLEAR (R84, R89). -/
def execProfileClear (slot : Fin 32) (notify : Bool) (s : State) : Host.Outcome State Fault Refusal :=
  effect (postFound slot notify (.profile { op := 3, key := 0, source := 0 })) s

/-- PROFILE with operation DEFAULT (R84, R85, R90). -/
def execProfileDefault (slot : Fin 32) (notify : Bool) (key : Half) (source : Addr) (s : State) :
    Host.Outcome State Fault Refusal :=
  effect (postFound slot notify (.profile { op := 4, key := key, source := source })) s

/-- MAP_LOAD (R73, R74). -/
def execMapLoad (slot : Fin 32) (notify : Bool) (p : MapParams) (s : State) : Host.Outcome State Fault Refusal :=
  effect (postFound slot notify (.mapLoad p)) s

/-- MAP_READ (R78). -/
def execMapRead (slot : Fin 32) (notify : Bool) (p : MapParams) (s : State) : Host.Outcome State Fault Refusal :=
  effect (postFound slot notify (.mapRead p)) s

/-- COUNTERS (R185). -/
def execCounters (slot : Fin 32) (notify : Bool) (p : CountersParams) (s : State) : Host.Outcome State Fault Refusal :=
  effect (postFound slot notify (.counters p)) s

/-- CANCEL with target MASK (R122, R142). -/
def execCancelMask (slot : Fin 32) (notify : Bool) (mask : Byte) (s : State) : Host.Outcome State Fault Refusal :=
  effect (postFound slot notify (.cancel { target := 1, mask := mask, slot := 0 })) s

/-- CANCEL with target TRACE (R142, R154). -/
def execCancelTrace (slot : Fin 32) (notify : Bool) (s : State) : Host.Outcome State Fault Refusal :=
  effect (postFound slot notify (.cancel { target := 2, mask := 0, slot := 0 })) s

/-- CANCEL with target SLOT (R123, R142, R154). -/
def execCancelSlot (slot : Fin 32) (notify : Bool) (target : Byte) (s : State) : Host.Outcome State Fault Refusal :=
  effect (postFound slot notify (.cancel { target := 3, mask := 0, slot := target })) s

/-- CLOCK_SET (R183). -/
def execClockSet (slot : Fin 32) (notify : Bool) (value : BitVec 32) (s : State) : Host.Outcome State Fault Refusal :=
  effect (postFound slot notify (.clockSet value)) s

end Sys2Proof.Machine
end

