-- ==== Sys2Proof/Machine/Registers.lean ====
section
/-!
DEFINITION. The Register Window (chapter 11): what each register reads as, and what a write to each does.
-/
namespace Sys2Proof.Machine

open Sys2Proof

/-! ### Reads (R69, R168, R173 to R175, R178): functions of the state, since a read changes nothing -/

/-- IDENT (R174, R175). -/
def Device.identReg (d : Device) : Nat :=
  0x3280 + 2 * 2 ^ 16 + d.board.nx4 * 2 ^ 20 + d.board.ny4 * 2 ^ 26 + bit d.board.bFitted * 2 ^ 31

/-- CONTROL (R174, R176). -/
def Registers.controlReg (r : Registers) : Nat :=
  bit r.run + 2 * bit r.intake + 4 * bit r.batch + r.mask.toNat * 2 ^ 8

/-- The Trace Unit's state as STATUS shows it (R174). -/
def Device.traceCode (d : Device) : Nat :=
  match d.trace with
  | none => 0
  | some t => if t.capturing then 2 else 1

/-- The Sync Tracker's state as STATUS shows it (R174). -/
def SyncState.code : SyncState → Nat
  | .free => 0
  | .centre => 1
  | .lead => 2
  | .lag => 3

/-- STATUS (R174, R178). -/
def Device.statusReg (d : Device) : Nat :=
  bit d.link.halted + 2 * bit (d.map.state == .ready) + 4 * d.traceCode + 2 ^ 4 * bit d.exec.isSome
    + 2 ^ 8 * d.delivery.captures.length + 2 ^ 13 * bit (d.delivery.captures.length == 16)
    + 2 ^ 16 * d.delivery.holding.length + 2 ^ 24 * d.scan.tracker.code

/-- The code of a fault class (R164). -/
def FaultClass.code : FaultClass → Nat
  | .readError => 1
  | .readTimeout => 2
  | .masterOff => 3
  | .linkDown => 4

/-- The code of a site (R174). -/
def Site.code : Site → Nat
  | .sweep => 0
  | .body => 1
  | .executor => 2
  | .drain => 3

/-- FAULT, field word (R168, R174). -/
def Device.faultReg (d : Device) : Nat :=
  match d.link.faultRecord with
  | none => 0
  | some f =>
    1 + 2 * f.cls.code + 2 ^ 4 * f.site.code
      + (match f.slot with
        | some s => 2 ^ 6 + 2 ^ 8 * s.val
        | none => 0)

/-- FAULT, time word (R168, R173). -/
def Device.faultTimeReg (d : Device) : Nat :=
  match d.link.faultRecord with
  | none => 0
  | some f => f.clock.toNat

/-- The code of a log entry's source (R174). -/
def Requester.code : Requester → Nat
  | .solver => 0
  | .scrubber => 1
  | .executor => 2

/-- MAPLOG (R69, R174). -/
def Device.maplogReg (d : Device) : Nat :=
  match d.map.log with
  | none => 0
  | some e =>
    1 + 2 * bit (e.outcome == .uncorrectable) + 4 * e.source.code + 2 ^ 8 * e.bit + 2 ^ 16 * e.node

/-- The value of the register at a 4-aligned offset; 0 where none is (R173). -/
def Device.readRegister (d : Device) (offset : Nat) : Nat :=
  match offset with
  | 0x00 => d.identReg
  | 0x04 => d.regs.controlReg
  | 0x08 => d.statusReg
  | 0x0C => d.regs.event.toNat
  | 0x14 => d.faultReg
  | 0x18 => d.maplogReg
  | 0x1C => d.faultTimeReg
  | 0x20 => d.regs.tableBase.toNat % 2 ^ 32
  | 0x24 => d.regs.tableBase.toNat / 2 ^ 32
  | _ => 0

/-- A read access of a width in bytes (R173): whole registers, the addressed bytes of one, the 8-byte access at 0x20, and
0 for one that crosses a 4-byte boundary. -/
def Device.readAccess (d : Device) (offset width : Nat) : Nat :=
  if width = 8 ∧ offset = 0x20 then d.regs.tableBase.toNat
  else if offset % 4 + width ≤ 4 then d.readRegister (offset - offset % 4) / 256 ^ (offset % 4) % 256 ^ width
  else 0

/-! ### CONTROL (R176) -/

/-- RUN written from 0 to 1 starts a stopped engine (R11). -/
def runEdge (was : Bool) (d : Device) : Device :=
  if !was && d.regs.run && (d.scan.engine == .stopped) then
    startFrame { d with scan := { d.scan with elapsed := 0 } }
  else d

/-- A sweep's strip read has been asked for and waits for the link (R135, R159). -/
def LinkPort.stripWaits (l : LinkPort) : Bool := l.waiting.any fun r => r.site == .sweep

/-- INTAKE written 0 during a sweep (R135): one whose strip read is not yet issued ends, with that read withdrawn;
any other ends at its next slot boundary. -/
def sweepIntakeOff (d : Device) : Device :=
  match d.intake.sweep with
  | none => d
  | some sw => match sw.phase with
    | .waitStrips _ => setSweep none d
    | .strip =>
      if d.link.stripWaits then
        setSweep none
          { d with link := { d.link with waiting := d.link.waiting.filter fun r => !(r.site == .sweep) } }
      else setSweep (some { sw with ending := true }) d
    | .body _ _ => setSweep (some { sw with ending := true }) d

/-- INTAKE written from 1 to 0: prompt pending is cleared, and a sweep in progress is ended (R130, R135). -/
def intakeEdge (was : Bool) (d : Device) : Device :=
  if was && !d.regs.intake then sweepIntakeOff { d with intake := { d.intake with promptPending := false } } else d

/-- RESUME: HALTED is left, a drain walk runs, and a head that waits is issued or faults (R171). -/
def resumeAct (d : Device) : Device :=
  if d.link.halted then settleLink (drainWalk { d with link := { d.link with halted := false } }) else d

/-- The fields of a CONTROL write become the register's (R176). -/
def controlFields (w : BitVec 32) (d : Device) : Device :=
  setEventMask d.regs.event (w.extractLsb' 8 4)
    { d with regs := { d.regs with run := w.getLsbD 0, intake := w.getLsbD 1, batch := w.getLsbD 2 } }

/-- A CONTROL write that does not set RESET (R176). -/
def controlWrite (w : BitVec 32) (d : Device) : Device :=
  let wasRun := d.regs.run
  let wasIntake := d.regs.intake
  let d := intakeEdge wasIntake (runEdge wasRun (controlFields w d))
  if w.getLsbD 3 then resumeAct d else d

/-- A CONTROL write with this bit held at a value and RESET at 0. -/
def withBit (w : BitVec 32) (n : Nat) (v : Bool) : BitVec 32 :=
  let m := ~~~(BitVec.twoPow 32 n ||| BitVec.twoPow 32 4)
  (w &&& m) ||| (if v then BitVec.twoPow 32 n else 0)

/-- A CONTROL write with RESET at 0. -/
def withoutReset (w : BitVec 32) : BitVec 32 := w &&& ~~~BitVec.twoPow 32 4

/-! ### The other registers -/

/-- EVENT: a 1 clears its cause (R179). -/
def eventClear (v : BitVec 32) (d : Device) : Device :=
  setEventMask (d.regs.event &&& ~~~v.extractLsb' 0 4) d.regs.mask d

/-- PROMPT (R130). -/
def promptWrite (d : Device) : Device :=
  if d.canSweep then
    match d.intake.sweep with
    | some _ => { d with intake := { d.intake with promptPending := true } }
    | none => startSweep d
  else d

/-- FAULT: a write to either word empties the Fault Record (R168). -/
def faultClear (d : Device) : Device := { d with link := { d.link with faultRecord := none } }

/-- MAPLOG: a write empties the log (R69). -/
def maplogClear (d : Device) : Device := { d with map := { d.map with log := none } }

/-- TABLE BASE with the low word's bits 12..31 replaced (R181). -/
def baseLow (base : Addr) (v : BitVec 32) : Addr :=
  base.extractLsb' 32 32 ++ (v &&& ~~~(0xFFF : BitVec 32))

/-- TABLE BASE with the high word replaced (R181). -/
def baseHigh (base : Addr) (v : BitVec 32) : Addr := v ++ base.extractLsb' 0 32

/-- The new TABLE BASE of a write (R173, R181). -/
def newBase (base : Addr) : TableBaseAccess → Addr
  | .low v => baseLow base v
  | .high v => baseHigh base v
  | .both v => baseHigh (baseLow base (v.extractLsb' 0 32)) (v.extractLsb' 32 32)

/-- TABLE BASE: discarded while INTAKE is 1 (R181). -/
def baseWrite (t : TableBaseAccess) (d : Device) : Device :=
  if d.regs.intake then d else { d with regs := { d.regs with tableBase := newBase d.regs.tableBase t } }

/-- A CONTROL write, RESET or not (R176, R177). -/
def controlAny (w : BitVec 32) (d : Device) : Device := if w.getLsbD 4 then softReset d else controlWrite w d

/-- A 4-byte write at a 4-aligned offset; discarded where no register takes it (R173). -/
def writeWord (offset : Nat) (v : BitVec 32) (d : Device) : Device :=
  match offset with
  | 0x04 => controlAny v d
  | 0x0C => eventClear v d
  | 0x10 => promptWrite d
  | 0x14 => faultClear d
  | 0x18 => maplogClear d
  | 0x1C => faultClear d
  | 0x20 => baseWrite (.low v) d
  | 0x24 => baseWrite (.high v) d
  | _ => d

/-- A write access of a width in bytes (R173). -/
def writeAccess (offset width : Nat) (v : BitVec 64) (d : Device) : Device :=
  if width = 8 ∧ offset = 0x20 then baseWrite (.both v) d
  else if width = 4 ∧ offset % 4 = 0 then writeWord offset (v.extractLsb' 0 32) d
  else d

end Sys2Proof.Machine
end

