-- ==== Sys2Proof/Machine/RegisterCommands.lean ====
section
/-!
DEFINITION. The commands that reset the part and those that write its registers.
-/
namespace Sys2Proof.Machine

open Sys2Proof

/-- POWER_ON (R187). -/
def execPowerOn (board : BitVec 16) (inputs : LinkInputs) (s : State) : Host.Outcome State Fault Refusal :=
  effect (powerOnReset board inputs) s

/-- LINK_RESET (R187). -/
def execLinkReset (board : BitVec 16) (inputs : LinkInputs) (s : State) : Host.Outcome State Fault Refusal :=
  effect (linkReset board inputs) s

/-- SOFT_RESET: the other bits of the write are not used (R177). -/
def execSoftReset (_w : BitVec 32) (s : State) : Host.Outcome State Fault Refusal :=
  effect softReset s

/-- RUN_SET: a CONTROL write with RUN 1 (R11, R176). -/
def execRunSet (w : BitVec 32) (s : State) : Host.Outcome State Fault Refusal :=
  effect (controlWrite (withBit w 0 true)) s

/-- RUN_CLEAR: a CONTROL write with RUN 0 (R12, R176). -/
def execRunClear (w : BitVec 32) (s : State) : Host.Outcome State Fault Refusal :=
  effect (controlWrite (withBit w 0 false)) s

/-- INTAKE_SET: a CONTROL write with INTAKE 1 (R129, R176). -/
def execIntakeSet (w : BitVec 32) (s : State) : Host.Outcome State Fault Refusal :=
  effect (controlWrite (withBit w 1 true)) s

/-- INTAKE_CLEAR: a CONTROL write with INTAKE 0 (R135, R176). -/
def execIntakeClear (w : BitVec 32) (s : State) : Host.Outcome State Fault Refusal :=
  effect (controlWrite (withBit w 1 false)) s

/-- BATCH: a CONTROL write, which takes BATCH with the other fields (R135, R176). -/
def execBatch (w : BitVec 32) (s : State) : Host.Outcome State Fault Refusal :=
  effect (controlWrite (withoutReset w)) s

/-- MASK_WRITE: a CONTROL write, which takes the mask with the other fields (R176, R180). -/
def execMaskWrite (w : BitVec 32) (s : State) : Host.Outcome State Fault Refusal :=
  effect (controlWrite (withoutReset w)) s

/-- RESUME: a CONTROL write with RESUME set (R171, R176). -/
def execResume (w : BitVec 32) (s : State) : Host.Outcome State Fault Refusal :=
  effect (controlWrite (withBit w 3 true)) s

/-- PROMPT (R130). -/
def execPrompt (_v : BitVec 32) (s : State) : Host.Outcome State Fault Refusal :=
  effect promptWrite s

/-- EVENT_WRITE (R179). -/
def execEventWrite (v : BitVec 32) (s : State) : Host.Outcome State Fault Refusal :=
  effect (eventClear v) s

/-- FAULT_WRITE: a write to either word (R168). -/
def execFaultWrite (_word : FaultWord) (_v : BitVec 32) (s : State) : Host.Outcome State Fault Refusal :=
  effect faultClear s

/-- MAPLOG_WRITE (R69). -/
def execMaplogWrite (_v : BitVec 32) (s : State) : Host.Outcome State Fault Refusal :=
  effect maplogClear s

/-- TABLE_BASE_WRITE (R181). -/
def execTableBaseWrite (t : TableBaseAccess) (s : State) : Host.Outcome State Fault Refusal :=
  effect (baseWrite t) s

/-- DISCARDED_REGISTER_WRITE: a write access of any offset and width; the ones the row names are discarded (R173). -/
def execDiscardedRegisterWrite (offset : BitVec 6) (width : Fin 9) (v : BitVec 64) (s : State) :
    Host.Outcome State Fault Refusal :=
  effect (writeAccess offset.toNat width.val v) s

end Sys2Proof.Machine
end

