-- ==== Sys2Proof/Machine/ScanCommands.lean ====
section
/-!
DEFINITION. The commands of scanning: frame boundaries, window results, the Solver's map reads, the panel sync, and the
passing of time.
-/
namespace Sys2Proof.Machine

open Sys2Proof

/-- The frame in progress has lasted its period: its boundary is made (R4). Before that the period has not expired and
nothing happens (log entry 11). -/
def frameExpiry (d : Device) : Device :=
  match d.scan.engine with
  | .running f =>
    if f.period ≤ d.scan.elapsed then
      settleLink (afterBoundary (goBoundary [.a, .b] f false { d with scan := { d.scan with elapsed := 0 } }))
    else d
  | _ => d

/-- FRAME_BOUNDARY (R4). -/
def execFrameBoundary (s : State) : Host.Outcome State Fault Refusal :=
  effect frameExpiry s

/-- A window result reaches the Scan Engine, which keeps it until the frame ends (R5, R8). -/
def windowDone (ch : Channel) (res : WindowResult) (d : Device) : Device :=
  match d.scan.engine with
  | .running f => { d with scan := { d.scan with engine := .running (f.accept ch res) } }
  | _ => d

/-- WINDOW_RESULT (R8). -/
def execWindowResult (ch : Channel) (res : WindowResult) (s : State) : Host.Outcome State Fault Refusal :=
  effect (windowDone ch res) s

/-- A Solver read is answered: the next one is placed, or the computation ends and the boundary goes on (R40, R52). -/
def solverAnswered (g : Grant) (b : Boundary) (d : Device) : Device :=
  let r := g.word.check
  let j : SolverJob := { b.job with got := b.job.got ++ [r.correction] }
  let d := endGrant (noteRead g.node r .solver d)
  if j.got.length < 4 then
    requestSolver { d with scan := { d.scan with engine := .boundary { b with job := j } } }
  else
    settleLink (afterBoundary (goBoundary b.todo b.frame b.realign (finishJob j false (arbitrate d))))

/-- The grant in progress is answered, when it is the Solver's (R52, R65). -/
def solverRead (d : Device) : Device :=
  match d.map.grant with
  | some g => match g.who with
    | .solver => match d.scan.engine with
      | .boundary b => solverAnswered g b d
      | _ => d
    | _ => d
  | none => d

/-- SOLVER_NODE_READ (R52). -/
def execSolverNodeRead (s : State) : Host.Outcome State Fault Refusal :=
  effect solverRead s

/-- An edge is the arrival the sync polarity selects (R15). -/
def Board.isArrival (b : Board) : Edge → Bool
  | .rising => !b.falling
  | .falling => b.falling

/-- A sync arrival: taken now, or after the boundary in progress; of no account while the engine is stopped (R4, R15,
R16, R19). -/
def syncEdge (e : Edge) (d : Device) : Device :=
  if d.board.isArrival e then
    match d.scan.engine with
    | .running _ => settleLink (afterBoundary (takeArrival d.scan.elapsed d))
    | .boundary _ => { d with scan := { d.scan with arrivals := d.scan.arrivals ++ [d.scan.elapsed] } }
    | .stopped => d
  else d

/-- SYNC_ARRIVAL (R16). -/
def execSyncArrival (e : Edge) (s : State) : Host.Outcome State Fault Refusal :=
  effect (syncEdge e) s

/-- The loss timer has run 100 ms while in step: the tracker enters FREE (R18). DESIGN CHOICE (log entry 29): an expiry that
comes while a frame boundary waits for map reads is taken at once, so a slip pending then is cleared before the frame start
that would have consumed it. -/
def lossExpiry (d : Device) : Device :=
  if d.scan.engine ≠ .stopped ∧ d.scan.tracker ≠ .free ∧ 100000 ≤ d.scan.lossElapsed then trackerFree d else d

/-- LOSS_TIMER_EXPIRY (R18). -/
def execLossTimerExpiry (s : State) : Host.Outcome State Fault Refusal :=
  effect lossExpiry s

/-- The engine's timers as time passes: the frame timer runs while the engine runs, the loss timer while in step
(R4, R18). -/
def ScanEngine.age (us : Nat) (e : ScanEngine) : ScanEngine :=
  if e.engine = .stopped then e
  else { e with
    elapsed := e.elapsed + us
    lossElapsed := if e.tracker = .free then e.lossElapsed else e.lossElapsed + us }

/-- An idle timer as running time passes (R118). -/
def Capture.age (us : Nat) (c : Capture) : Capture :=
  if c.timeout = 0 then c else { c with elapsed := c.elapsed + us }

/-- Idle timers run outside HALTED (R118). -/
def ageCaptures (us : Nat) (d : Device) : Device :=
  if d.link.halted then d
  else { d with delivery := { d.delivery with captures := d.delivery.captures.map fun c => c.age us } }

/-- The read timer of the read in flight runs (R159). -/
def LinkPort.age (us : Nat) (l : LinkPort) : LinkPort :=
  { l with inFlight := l.inFlight.map fun f => { f with elapsed := f.elapsed + us } }

/-- Time passes: the stroke clock and every timer that runs (R70, R118, R129, R159, R182). -/
def passTime (us : Nat) (d : Device) : Device :=
  ageCaptures us
    { d with
      clock := d.clock + BitVec.ofNat 32 us
      scan := d.scan.age us
      map := { d.map with scrubElapsed := d.map.scrubElapsed + us }
      intake := { d.intake with elapsed := d.intake.elapsed + us }
      link := d.link.age us }

/-- STROKE_CLOCK_TICK, for a number of ticks (R182). -/
def execStrokeClockTick (us : Nat) (s : State) : Host.Outcome State Fault Refusal :=
  effect (passTime us) s

end Sys2Proof.Machine
end

