-- ==== Sys2Proof/Machine/Dispatch.lean ====
section
/-! DEFINITION. The dispatch: one arm per command, each one call of its meaning. -/

namespace Sys2Proof.Machine

open Sys2Proof

def exec (i : Instr) (s : State) : Host.Outcome State Fault Refusal :=
  match i with
  | .powerOn board inputs => Sys2Proof.Machine.execPowerOn board inputs s
  | .linkReset board inputs => Sys2Proof.Machine.execLinkReset board inputs s
  | .softReset w => Sys2Proof.Machine.execSoftReset w s
  | .runSet w => Sys2Proof.Machine.execRunSet w s
  | .runClear w => Sys2Proof.Machine.execRunClear w s
  | .intakeSet w => Sys2Proof.Machine.execIntakeSet w s
  | .intakeClear w => Sys2Proof.Machine.execIntakeClear w s
  | .batch w => Sys2Proof.Machine.execBatch w s
  | .maskWrite w => Sys2Proof.Machine.execMaskWrite w s
  | .resume w => Sys2Proof.Machine.execResume w s
  | .prompt v => Sys2Proof.Machine.execPrompt v s
  | .eventWrite v => Sys2Proof.Machine.execEventWrite v s
  | .faultWrite word v => Sys2Proof.Machine.execFaultWrite word v s
  | .maplogWrite v => Sys2Proof.Machine.execMaplogWrite v s
  | .tableBaseWrite t => Sys2Proof.Machine.execTableBaseWrite t s
  | .discardedRegisterWrite offset width v => Sys2Proof.Machine.execDiscardedRegisterWrite offset width v s
  | .frameBoundary => Sys2Proof.Machine.execFrameBoundary s
  | .windowResult ch res => Sys2Proof.Machine.execWindowResult ch res s
  | .solverNodeRead => Sys2Proof.Machine.execSolverNodeRead s
  | .idleTimeout slot => Sys2Proof.Machine.execIdleTimeout slot s
  | .syncArrival edge => Sys2Proof.Machine.execSyncArrival edge s
  | .lossTimerExpiry => Sys2Proof.Machine.execLossTimerExpiry s
  | .scrubTimerExpiry => Sys2Proof.Machine.execScrubTimerExpiry s
  | .scrub => Sys2Proof.Machine.execScrub s
  | .mapLoadNodeWrite => Sys2Proof.Machine.execMapLoadNodeWrite s
  | .mapReadNodeRead => Sys2Proof.Machine.execMapReadNodeRead s
  | .sweepTimerExpiry => Sys2Proof.Machine.execSweepTimerExpiry s
  | .stripReadComplete bytes => Sys2Proof.Machine.execStripReadComplete bytes s
  | .bodyReadComplete bytes => Sys2Proof.Machine.execBodyReadComplete bytes s
  | .capture slot notify p => Sys2Proof.Machine.execCapture slot notify p s
  | .trace slot notify p => Sys2Proof.Machine.execTrace slot notify p s
  | .scanSetup slot notify p => Sys2Proof.Machine.execScanSetup slot notify p s
  | .profileLoad slot notify key source => Sys2Proof.Machine.execProfileLoad slot notify key source s
  | .profileRemove slot notify key => Sys2Proof.Machine.execProfileRemove slot notify key s
  | .profileClear slot notify => Sys2Proof.Machine.execProfileClear slot notify s
  | .profileDefault slot notify key source => Sys2Proof.Machine.execProfileDefault slot notify key source s
  | .profileBlockReadComplete bytes => Sys2Proof.Machine.execProfileBlockReadComplete bytes s
  | .mapLoad slot notify p => Sys2Proof.Machine.execMapLoad slot notify p s
  | .mapPieceReadComplete bytes => Sys2Proof.Machine.execMapPieceReadComplete bytes s
  | .mapRead slot notify p => Sys2Proof.Machine.execMapRead slot notify p s
  | .counters slot notify p => Sys2Proof.Machine.execCounters slot notify p s
  | .cancelMask slot notify mask => Sys2Proof.Machine.execCancelMask slot notify mask s
  | .cancelTrace slot notify => Sys2Proof.Machine.execCancelTrace slot notify s
  | .cancelSlot slot notify target => Sys2Proof.Machine.execCancelSlot slot notify target s
  | .clockSet slot notify value => Sys2Proof.Machine.execClockSet slot notify value s
  | .writeAccepted => Sys2Proof.Machine.execWriteAccepted s
  | .readError => Sys2Proof.Machine.execReadError s
  | .readTimeout => Sys2Proof.Machine.execReadTimeout s
  | .linkDown => Sys2Proof.Machine.execLinkDown s
  | .linkUp => Sys2Proof.Machine.execLinkUp s
  | .busMasteringChange on => Sys2Proof.Machine.execBusMasteringChange on s
  | .mapBitFlip node bit => Sys2Proof.Machine.execMapBitFlip node bit s
  | .strokeClockTick us => Sys2Proof.Machine.execStrokeClockTick us s
  | .staleReadCompletion bytes => Sys2Proof.Machine.execStaleReadCompletion bytes s
  | .messageInterruptEnableChange on addr data => Sys2Proof.Machine.execMessageInterruptEnableChange on addr data s

end Sys2Proof.Machine
end

