-- ==== Sys2Proof/Machine/Step.lean ====
section
/-!
DEFINITION. One step of the block: it takes the command at the front of its queue. The queue is the model's way of
giving commands to a block that fetches none; with no command waiting the block idles (log entry 12).
-/
namespace Sys2Proof.Machine

open Sys2Proof

/-- One step: the front command runs with the queue's rest; an empty queue leaves the state as it is. -/
def step (s : State) : Host.Outcome State Fault Refusal :=
  match s.pending with
  | [] => .next s
  | c :: rest => exec c { s with pending := rest }

/-- The state with the command a word spells put at the front of the queue. No row of the table has bits, so no word
spells one and the state stays. -/
def State.withFetchWord (s : State) (nbits w : Nat) : State :=
  match decodeTableWord nbits w with
  | some c => { s with pending := c :: s.pending }
  | none => s

end Sys2Proof.Machine
end

