-- ==== Sys2Proof/Safety.lean ====
section
/-!
DEFINITION. What a claim about the part speaks of: the bounds the manual promises of its queues and counts, the
quiet of HALTED, the accounting of records, and a part whose link has nothing to do.
-/
namespace Sys2Proof.Machine

open Sys2Proof

/-- A part that has nothing waiting for the link, and whose link takes accesses: outside HALTED, link ACTIVE, mastering
enabled, no read request waiting, the Posted Write Buffer and the slot write queue empty, no record held, no trace frame
staged, no bulk write waiting. A read may be in flight. -/
structure Device.Calm (d : Device) : Prop where
  up : d.link.inputs.up = true
  mastering : d.link.inputs.mastering = true
  live : d.link.halted = false
  waiting : d.link.waiting = []
  buffer : d.link.buffer = []
  issued : d.link.issued = false
  slotQueue : d.link.slotQueue = []
  holding : d.delivery.holding = []
  staging : ∀ t, d.trace = some t → t.staging = []
  bulk : bulkGrant d = none

/-- A calm part whose sweep waits for the body of this slot, POSTED with this kind and not in flight; the sweep ends after
the slot, and no prompt is pending. -/
structure Device.Finds (d : Device) (slot : Fin 32) (kind : Byte) : Prop where
  calm : d.Calm
  waits : ∃ sw rest f, d.intake.sweep = some sw ∧ sw.phase = .body slot rest
    ∧ stripKind (sw.snapshot.getD slot.val 0) = kind ∧ d.link.inFlight = some f ∧ f.req.site = .body
    ∧ (d.regs.batch = false ∨ rest = [])
  unprompted : d.intake.promptPending = false
  clear : d.isInFlight slot = false

/-- A part whose sweep waits for the body of a slot of an Executor kind, with the Executor idle: a post found there is
taken. -/
structure Device.Open (d : Device) (slot : Fin 32) (kind : Byte) : Prop where
  finds : d.Finds slot kind
  idle : d.exec = none

/-- The part after its sweep and the read in flight have ended. -/
def Device.swept (d : Device) : Device :=
  { d with intake := { d.intake with sweep := none }, link := { d.link with inFlight := none } }

/-- The queues the manual bounds: 4 writes in the Posted Write Buffer (R161), 64 records held (R101), 16 open captures,
each with room left (R114, R117), 8 profile entries, with room kept for the entry a LOAD in progress will need (R81,
R84). -/
structure Device.Bounded (d : Device) : Prop where
  buffer : d.link.buffer.length ≤ 4
  holding : d.delivery.holding.length ≤ 64
  captures : d.delivery.captures.length ≤ 16
  counts : ∀ c ∈ d.delivery.captures, c.count < c.capacity
  entries : d.profiles.entries.length ≤ 8
  room : ∀ slot key, d.exec = some { slot := slot, work := .profile false key } →
    (∃ e ∈ d.profiles.entries, e.key = key) ∨ d.profiles.entries.length < 8

/-- The pass counts of the Map Arbiter as R66 lets them stand: 0 for a requester that does not wait, never above 9. -/
structure CorrectionMap.PassOk (m : CorrectionMap) : Prop where
  exec : m.execPass ≤ 8
  scrub : m.scrubPass ≤ 9
  apart : m.scrubPass = 9 → m.execPass = 0
  execIdle : m.execWaiting = false → m.execPass = 0
  scrubIdle : m.scrubWaiting = false → m.scrubPass = 0

/-- While HALTED there is no read, no sweep, no prompt pending, no post of the Executor and no trace (R169). -/
def Device.QuietWhenHalted (d : Device) : Prop :=
  d.link.halted = true →
    d.link.inFlight = none ∧ d.link.waiting = [] ∧ d.intake.sweep = none ∧ d.intake.promptPending = false
      ∧ d.exec = none ∧ d.trace = none

/-- The number of held records of a channel. -/
def Device.heldOf (d : Device) (ch : Channel) : Nat := (d.delivery.holding.filter fun r => r.ch == ch).length

/-- A channel's account: produced less delivered, lost and held, modulo 2^32 (R110). -/
def Device.balance (d : Device) (ch : Channel) : BitVec 32 :=
  d.counters.produced.get ch - d.counters.delivered.get ch - d.counters.lost.get ch - BitVec.ofNat 32 (d.heldOf ch)

/-- The profile's values are in the ranges of section 5.1. -/
def Profile.Valid (p : Profile) : Prop := p.firstBad = none

/-- A board word's values after the limits of R1. -/
def Board.Valid (b : Board) : Prop := 4 ≤ b.nx4 ∧ b.nx4 ≤ 32 ∧ 4 ≤ b.ny4 ∧ b.ny4 ≤ 18

/-- The base of the sweep in progress (R126). -/
def Device.sweepBase (d : Device) : Addr :=
  match d.intake.sweep with
  | some sw => sw.base
  | none => d.regs.tableBase

/-- The mark a post found at a slot is handled under (R126, R136). -/
def Device.foundMark (d : Device) (slot : Fin 32) (kind : Byte) (notify : Bool) : SlotMark where
  slot := slot
  base := d.sweepBase
  kind := kind
  notify := notify

/-- The slot of a command that is a post, and the kind its strip word has (R192). -/
def postRow : Instr → Option (Fin 32 × Byte)
  | .capture slot _ _ => some (slot, 1)
  | .profileLoad slot _ _ _ => some (slot, 2)
  | .profileRemove slot _ _ => some (slot, 2)
  | .profileClear slot _ => some (slot, 2)
  | .profileDefault slot _ _ _ => some (slot, 2)
  | .mapLoad slot _ _ => some (slot, 3)
  | .mapRead slot _ _ => some (slot, 4)
  | .scanSetup slot _ _ => some (slot, 5)
  | .trace slot _ _ => some (slot, 6)
  | .counters slot _ _ => some (slot, 7)
  | .cancelMask slot _ _ => some (slot, 8)
  | .cancelTrace slot _ => some (slot, 8)
  | .cancelSlot slot _ _ => some (slot, 8)
  | .clockSet slot _ _ => some (slot, 9)
  | _ => none

/-! ### What a command leaves, in the terms claims use -/

/-- The part with these writes in the Posted Write Buffer, the first of them being issued. -/
def Device.wrote (d : Device) (ws : List HostWrite) : Device :=
  { d with link := { d.link with buffer := ws, issued := true } }

/-- The part with the rotation index at a slot. -/
def Device.rotated (d : Device) (slot : Fin 32) : Device :=
  { d with intake := { d.intake with rotation := slot } }

/-- The part with one more in-flight mark. -/
def Device.marked (d : Device) (m : SlotMark) : Device :=
  { d with intake := { d.intake with inFlight := m :: d.intake.inFlight } }

/-- A slot has been taken and its work goes on: its mark stands, and its TAKEN write is in the buffer (R136). -/
def Device.tookSlot (d : Device) (m : SlotMark) : Device :=
  ((d.rotated m.slot).marked m).wrote [takenWrite m]

/-- A slot has been taken and completed: its three writes are in the buffer, and its mark is clear again (R138). -/
def Device.completedSlot (d : Device) (m : SlotMark) (st : Status) (dt : Detail) (fields : List Byte) : Device :=
  (d.rotated m.slot).wrote [takenWrite m, resultWrite m st dt fields, doneWrite m]

/-- A slot has been rejected: its result and DONE are in the buffer, and its mark is clear again (R137, R138). -/
def Device.rejectedSlot (d : Device) (m : SlotMark) (dt : Detail) : Device :=
  (d.rotated m.slot).wrote [resultWrite m .rejected dt [], doneWrite m]

/-- The fields a CONTROL write would set are the ones CONTROL holds (R176). -/
def Registers.sameFields (r : Registers) (w : BitVec 32) : Prop :=
  w.getLsbD 0 = r.run ∧ w.getLsbD 1 = r.intake ∧ w.getLsbD 2 = r.batch ∧ w.extractLsb' 8 4 = r.mask

/-- A frame's windows have not both completed on either channel, so its end hands no results (R9). -/
def Frame.Unheard (f : Frame) : Prop := f.results .a = none ∧ f.results .b = none

/-! ### The tables of a channel's step, as the manual gives them (R23 to R27, R34, R36) -/

/-- The profile that governs a step that began in the given state, by the identity the context has after its symbol (the
table of R36), with its name and revision. -/
inductive Profiles.Governs (ps : Profiles) (st : TrackState) (c : Context) : Resolution → Prop where
  | search (h : st = .search) :
    ps.Governs st c { name := .default, rev := ps.defaultRev, profile := ps.default, unlisted := false }
  | unidentified (h : c.ident ≠ .known) :
    ps.Governs st c { name := .default, rev := ps.defaultRev, profile := ps.default, unlisted := false }
  | listed (before after : List ProfileEntry) (e : ProfileEntry) (hs : st ≠ .search) (hk : c.ident = .known)
      (hz : c.code ≠ 0) (he : ps.entries = before ++ e :: after) (hc : e.key = c.code)
      (hb : ∀ x ∈ before, x.key ≠ c.code) :
    ps.Governs st c { name := .key c.code, rev := e.rev, profile := e.profile, unlisted := false }
  | unlisted (hs : st ≠ .search) (hk : c.ident = .known) (h : c.code = 0 ∨ ∀ e ∈ ps.entries, e.key ≠ c.code) :
    ps.Governs st c { name := .default, rev := ps.defaultRev, profile := ps.default, unlisted := true }

/-- Both tip peaks reach a level: prox_level in SEARCH, the tracked level, half of it, once tracked (R23, R24). -/
def reaches (level px py : Nat) : Prop := level ≤ px ∧ level ≤ py

/-- The channel was in HOVER, or has come back to it from COAST. -/
def Context.fromHover (c : Context) : Prop := c.state = .hover ∨ (c.state = .coast ∧ c.prevContact = false)

/-- The channel was in CONTACT, or has come back to it from COAST. -/
def Context.fromContact (c : Context) : Prop := c.state = .contact ∨ (c.state = .coast ∧ c.prevContact = true)

/-- A context that has come back from COAST, if it was in it: coast count 0, BRIDGED pending (R26). -/
def Context.back (c : Context) : Context := if c.state = .coast then { c with coastCount := 0, bridged := true } else c

/-- A step that yields a record, on the tip peaks px and py and the phase code v: the context after its transition and the
record's state, event and STROKE_END (the tables of R23, R25 and R26). -/
inductive Context.Yields (c : Context) (p : Profile) (px py v : Nat) : Context → Yield → Prop where
  | findContact (hs : c.state = .search) (hp : reaches p.prox px py) (hv : p.on ≤ v) :
    c.Yields p px py v { c with state := .contact, stroke := c.stroke + 1 } ⟨.contact, .proxIn, false⟩
  | findHover (hs : c.state = .search) (hp : reaches p.prox px py) (hv : v < p.on) :
    c.Yields p px py v { c with state := .hover } ⟨.hover, .proxIn, false⟩
  | touch (hs : c.fromHover) (hp : reaches (p.prox / 2) px py) (hv : p.on ≤ v) :
    c.Yields p px py v { c.back with state := .contact, stroke := c.stroke + 1 } ⟨.contact, .touch, false⟩
  | hover (hs : c.fromHover) (hp : reaches (p.prox / 2) px py) (hv : v < p.on) :
    c.Yields p px py v { c.back with state := .hover } ⟨.hover, .none, false⟩
  | stay (hs : c.fromContact) (hp : reaches (p.prox / 2) px py) (hv : p.off ≤ v) :
    c.Yields p px py v { c.back with state := .contact } ⟨.contact, .none, false⟩
  | lift (hs : c.fromContact) (hp : reaches (p.prox / 2) px py) (hv : v < p.off) :
    c.Yields p px py v { c.back with state := .hover } ⟨.hover, .lift, true⟩

/-- A step that yields no record, short of one held back (R23, R24, R26). -/
inductive Context.Silent (c : Context) (p : Profile) (px py : Nat) : Context → Prop where
  | unfound (hs : c.state = .search) (hp : ¬reaches p.prox px py) : c.Silent p px py c
  | lost (contact : Bool) (hs : c.state = if contact then .contact else .hover) (hp : ¬reaches (p.prox / 2) px py) :
    c.Silent p px py { c with state := .coast, prevContact := contact, coastCount := 1 }
  | coasting (hs : c.state = .coast) (hp : ¬reaches (p.prox / 2) px py) (hc : c.coastCount < 3) :
    c.Silent p px py { c with coastCount := c.coastCount + 1 }

/-- What a symbol does to the identity state (the table of R34): the context before it and after it. -/
inductive Context.Reads (c : Context) : Symbol → Context → Prop where
  | begins (h : c.ident = .unknown) : c.Reads .mark { c with ident := .reading, digits := [] }
  | ignored (s : Symbol) (h : c.ident = .unknown) (hs : s ≠ .mark) : c.Reads s c
  | restarts (h : c.ident = .reading) : c.Reads .mark { c with digits := [] }
  | abandoned (h : c.ident = .reading) : c.Reads .none { c with ident := .unknown, digits := [] }
  | collected (x : Fin 4) (h : c.ident = .reading) (hn : c.digits.length < 9) :
    c.Reads (.digit x) { c with digits := c.digits ++ [x] }
  | decoded (x : Fin 4) (h : c.ident = .reading) (hn : 9 ≤ c.digits.length)
      (hg : receivedCheck (c.digits ++ [x]) = nibbleSum (toolCode (c.digits ++ [x]))) :
    c.Reads (.digit x) { c with
      ident := .known, digits := c.digits ++ [x], code := BitVec.ofNat 16 (toolCode (c.digits ++ [x])) }
  | failed (x : Fin 4) (h : c.ident = .reading) (hn : 9 ≤ c.digits.length)
      (hg : receivedCheck (c.digits ++ [x]) ≠ nibbleSum (toolCode (c.digits ++ [x]))) :
    c.Reads (.digit x) { c with
      ident := if c.attempts < 2 then .unknown else .failed, digits := [], attempts := c.attempts + 1 }
  | settled (s : Symbol) (h : c.ident = .known ∨ c.ident = .failed) : c.Reads s c

/-- The context after its symbol: applied in a step that does not begin in SEARCH (R21 step 1). -/
def Context.Hears (c : Context) (s : Symbol) (c' : Context) : Prop :=
  (c.state = .search ∧ c' = c) ∨ (c.state ≠ .search ∧ c.Reads s c')

/-- The context once the resolved profile has been compared with the last seen one (R37). -/
def Context.resolved (c : Context) (res : Resolution) : Context :=
  { c with
    changed := c.changed || (c.state.tracked && decide (c.lastSeen ≠ res.name ∨ c.lastRev ≠ res.rev))
    lastSeen := res.name
    lastRev := res.rev }

/-- The context with the last peak loops of a frame, the ring's those of the tip where the ring is too weak (R7). -/
def Context.peaksOf (c : Context) (f : FrameResults) (prox : Nat) : Context :=
  let weak := f.ringX.peakAmp < prox / 4 ∨ f.ringY.peakAmp < prox / 4
  { c with
    peakTipX := f.tipX.peakLoop
    peakTipY := f.tipY.peakLoop
    peakRingX := if weak then f.tipX.peakLoop else f.ringX.peakLoop
    peakRingY := if weak then f.tipY.peakLoop else f.ringY.peakLoop }

/-- The hover divisor holds back a plain hover record: fewer of them have come than the divisor asks for (R32). -/
def Context.holds (c : Context) (divisor : Nat) (y : Yield) : Prop :=
  y.state = .hover ∧ y.event = .none ∧ c.hoverCount + 1 < divisor

/-- The record of a step whose map state is ABSENT: c1 is the context after its symbol, c2 after its profile, c after the
transition (R29, R35, R50, R95, R96, R98). -/
def Device.uncorrected (d : Device) (ch : Channel) (r : FrameResults) (res : Resolution) (c1 c2 c : Context) (y : Yield) :
    Record × Nat :=
  let st := stages d.board r res.profile
  let first := decide (y.event = .touch ∨ y.event = .proxIn ∨ c2.changed = true)
  let pr := pressureStage res.profile (decide (y.state = .contact)) first r.r.toNat c1.smooth
  ({ ch := ch, state := y.state, event := y.event, stroke := c.stroke, timeTag := r.timeTag, x := st.x, y := st.y,
     pressure := pr.1, tiltX := st.tiltX, tiltY := st.tiltY, tool := if c1.ident = .known then c1.code else 0,
     seq := c1.seq, phase := r.r
     flags := { gap := c1.gap, slip := r.slipped, edgeX := st.edgeX, edgeY := st.edgeY, clip := st.clip,
                mapFault := false, noMap := true, tiltLimit := st.tiltLimit, noTilt := st.noTilt,
                toolPending := decide (c1.ident = .unknown ∨ c1.ident = .reading), toolUnlisted := res.unlisted,
                toolFailed := decide (c1.ident = .failed), bridged := c.bridged, strokeEnd := y.strokeEnd,
                profileChanged := c2.changed } }, pr.2)

/-- The PROX_OUT of a pen that is given up: c1 is the context after its symbol (R27, R28). -/
def Context.farewell (c1 : Context) (ch : Channel) (r : FrameResults) (unlisted : Bool) : Record where
  ch := ch
  state := .none
  event := .proxOut
  flags :=
    { gap := c1.gap, slip := r.slipped, toolPending := decide (c1.ident = .unknown ∨ c1.ident = .reading),
      toolUnlisted := unlisted, toolFailed := decide (c1.ident = .failed), strokeEnd := c1.prevContact }
  stroke := c1.stroke
  timeTag := r.timeTag
  x := c1.lastX
  y := c1.lastY
  pressure := 0
  tiltX := 0
  tiltY := 0
  tool := if c1.ident = .known then c1.code else 0
  seq := c1.seq
  phase := 0

/-- A channel's step on its frame results that ends within the boundary, while no capture is open and the Holding Queue has
room: the context after its symbol, the context after the step, and the record produced, if any (R21 to R32, R36, R37). -/
inductive Device.Steps (d : Device) (ch : Channel) (r : FrameResults) : Context → Context → Option Record → Prop where
  | silent {c1 c : Context} {res : Resolution} (hh : (d.ctx ch).Hears r.symbol c1)
      (hg : d.profiles.Governs (d.ctx ch).state c1 res)
      (hm : (c1.resolved res).Silent res.profile r.tipX.peakAmp r.tipY.peakAmp c) : d.Steps ch r c1 c none
  | heldBack {c1 c : Context} {res : Resolution} {y : Yield} (hh : (d.ctx ch).Hears r.symbol c1)
      (hg : d.profiles.Governs (d.ctx ch).state c1 res)
      (hm : (c1.resolved res).Yields res.profile r.tipX.peakAmp r.tipY.peakAmp r.r.toNat c y)
      (hb : c1.holds d.scan.divisor y) :
    d.Steps ch r c1 ({ c with hoverCount := c1.hoverCount + 1 }.peaksOf r res.profile.prox) none
  | produced {c1 c : Context} {res : Resolution} {y : Yield} {q : Record} {smooth : Nat} (hh : (d.ctx ch).Hears r.symbol c1)
      (hg : d.profiles.Governs (d.ctx ch).state c1 res)
      (hm : (c1.resolved res).Yields res.profile r.tipX.peakAmp r.tipY.peakAmp r.r.toNat c y)
      (hb : ¬c1.holds d.scan.divisor y) (ha : d.map.state = .absent)
      (hq : d.uncorrected ch r res c1 (c1.resolved res) c y = (q, smooth)) :
    d.Steps ch r c1
      ({ c with
          seq := c1.seq + 1, hoverCount := 0, lastX := q.x, lastY := q.y, bridged := false, changed := false,
          gap := false, smooth := smooth }.peaksOf r res.profile.prox) (some q)
  | givenUp {c1 : Context} {res : Resolution} (hh : (d.ctx ch).Hears r.symbol c1)
      (hg : d.profiles.Governs (d.ctx ch).state c1 res) (hs : c1.state = .coast)
      (hp : ¬reaches (res.profile.prox / 2) r.tipX.peakAmp r.tipY.peakAmp) (hc : 3 ≤ c1.coastCount) :
    d.Steps ch r c1
      { c1 with
        state := .search, ident := .unknown, digits := [], attempts := 0, coastCount := 0, hoverCount := 0,
        bridged := false, changed := false, lastSeen := .default, lastRev := d.profiles.defaultRev,
        seq := c1.seq + 1, gap := false }
      (some (c1.farewell ch r res.unlisted))

/-- A channel's step that yields a record while the map is READY, and so waits for the Solver's four reads: the context after
its symbol, the context that waits, and the computation (R39, R40, R50). -/
inductive Device.Waits (d : Device) (ch : Channel) (r : FrameResults) : Context → Context → SolverJob → Prop where
  | intro {c1 c : Context} {res : Resolution} {y : Yield} (hh : (d.ctx ch).Hears r.symbol c1)
      (hg : d.profiles.Governs (d.ctx ch).state c1 res)
      (hm : (c1.resolved res).Yields res.profile r.tipX.peakAmp r.tipY.peakAmp r.r.toNat c y)
      (hb : ¬c1.holds d.scan.divisor y) (ha : d.map.state = .ready) :
    d.Waits ch r c1 c
      { ch := ch, results := r, profile := res.profile, yield := y, unlisted := res.unlisted, got := [] }

/-- A step has just brought the identity to FAILED (R34, R184). -/
def Device.fails (d : Device) (ch : Channel) (c1 : Context) : BitVec 32 :=
  if (d.ctx ch).ident ≠ .failed ∧ c1.ident = .failed then 1 else 0

/-- A channel at the end of a frame whose boundary does not wait for it: it is handed no results and stays as it is, or it
takes its step. The context after it, the record produced, and how far the identification failures rise (R9, R21). -/
inductive Device.Ends (d : Device) (f : Frame) (ch : Channel) : Context → Option Record → BitVec 32 → Prop where
  | unheard (h : f.results ch = none) : d.Ends f ch (d.ctx ch) none 0
  | heard {r : FrameResults} {c1 c : Context} {q : Option Record} (h : f.results ch = some r)
      (hs : d.Steps ch r c1 c q) : d.Ends f ch c q (d.fails ch c1)

/-! ### Causes, node reads and the Map Error Log (R63, R67, R68, R179, R180) -/

/-- A cause is set in EVENT: no message goes out with the line interrupt, where the interrupt condition held before, or where
it still does not hold; where it comes to hold with message interrupts on, a message is sent, or kept pending while the link
takes none (R179, R180). -/
inductive Device.Raises (d : Device) (bits : BitVec 4) : Device → Prop where
  | untold (hi : d.link.inputs.msiOn = false ∨ d.regs.event &&& d.regs.mask ≠ 0
        ∨ (d.regs.event ||| bits) &&& d.regs.mask = 0) :
    d.Raises bits { d with regs := { d.regs with
      event := d.regs.event ||| bits
      msgPending := d.regs.msgPending && ((d.regs.event ||| bits) &&& d.regs.mask != 0) } }
  | told (hi : d.link.inputs.msiOn = true) (hn : d.regs.event &&& d.regs.mask = 0)
      (hm : (d.regs.event ||| bits) &&& d.regs.mask ≠ 0)
      (hl : d.link.inputs.up = true ∧ d.link.inputs.mastering = true) :
    d.Raises bits { d with
      link := { d.link with sent := .message d.link.inputs.msiAddr d.link.inputs.msiData :: d.link.sent }
      regs := { d.regs with event := d.regs.event ||| bits, msgPending := false } }
  | kept (hi : d.link.inputs.msiOn = true) (hn : d.regs.event &&& d.regs.mask = 0)
      (hm : (d.regs.event ||| bits) &&& d.regs.mask ≠ 0)
      (hl : ¬(d.link.inputs.up = true ∧ d.link.inputs.mastering = true)) :
    d.Raises bits { d with regs := { d.regs with event := d.regs.event ||| bits, msgPending := true } }

/-- The part once the link has accepted the head write: EVENT.DONE is set when it is the DONE write of a slot with NOTIFY,
and only then (R139, R161). -/
inductive Device.Accepts (d : Device) (w : HostWrite) (rest : List HostWrite) : Device → Prop where
  | plain (h : ∀ slot, w.role ≠ .done slot true) :
    d.Accepts w rest { d with link := { d.link with buffer := rest, issued := false, sent := .write w :: d.link.sent } }
  | notifies (slot : Fin 32) {d' : Device} (h : w.role = .done slot true)
      (hr : Device.Raises
        { d with link := { d.link with buffer := rest, issued := false, sent := .write w :: d.link.sent } } 1 d') :
    d.Accepts w rest d'

/-- An outcome offered to the Map Error Log: an entry there stays; an empty log takes it and MAPERR is set (R68). -/
inductive Device.Offered (d : Device) (e : MapLogEntry) : Device → Prop where
  | full (h : d.map.log ≠ none) : d.Offered e d
  | first {d' : Device} (h : d.map.log = none)
      (hr : Device.Raises { d with map := { d.map with log := some e } } 4 d') : d.Offered e d'

/-- A read of this word at a node by a requester, counted and offered to the log: CLEAN, CORRECTED with one flipped bit,
UNCORRECTABLE with two (R62, R63, R67, R68). -/
inductive Device.Notes (d : Device) (node : Nat) (w : NodeWord) (who : Requester) : ReadOutcome → Device → Prop where
  | clean (h : w.flips = 0) : d.Notes node w who .clean d
  | corrected (b : Fin 39) {d' : Device} (h : w.flips = BitVec.twoPow 39 b.val)
      (ho : Device.Offered { d with counters := { d.counters with mapCorrected := d.counters.mapCorrected + 1 } }
        { node := node, outcome := .corrected, bit := b.val, source := who } d') : d.Notes node w who .corrected d'
  | uncorrectable (b c : Fin 39) {d' : Device} (hbc : b ≠ c)
      (h : w.flips = BitVec.twoPow 39 b.val ||| BitVec.twoPow 39 c.val)
      (ho : Device.Offered { d with counters := { d.counters with mapUncorrectable := d.counters.mapUncorrectable + 1 } }
        { node := node, outcome := .uncorrectable, bit := 127, source := who } d') :
    d.Notes node w who .uncorrectable d'

/-- The captures as an entry into HALTED leaves them: each idle timer keeps the time it has run, and one that has run its
timeout already, its expiry not taken, stands short of it (R118, R119; short by one µs, log entry 38). -/
def Delivery.paused (d : Delivery) : Delivery :=
  { d with captures := d.captures.map fun c =>
      if c.timeout = 0 ∨ c.elapsed < 1000 * c.timeout then c else { c with elapsed := 1000 * c.timeout - 1 } }

/-- No SCAN_SETUP waits for a frame start (R13). -/
def Device.NoSetup (d : Device) : Prop := ∀ slot p, d.exec ≠ some { slot := slot, work := .scanSetup p }

/-- A context holds the values every reset gives it (R38). -/
structure Context.Blank (c : Context) (defaultRev : BitVec 8) : Prop where
  state : c.state = .idle
  coast : c.prevContact = false ∧ c.coastCount = 0
  peaks : c.peakTipX = 0 ∧ c.peakTipY = 0 ∧ c.peakRingX = 0 ∧ c.peakRingY = 0
  last : c.lastX = 0 ∧ c.lastY = 0
  numbers : c.stroke = 0 ∧ c.seq = 0 ∧ c.hoverCount = 0
  identity : c.ident = .unknown ∧ c.digits = [] ∧ c.attempts = 0 ∧ c.code = 0
  profile : c.lastSeen = .default ∧ c.lastRev = defaultRev
  marks : c.bridged = false ∧ c.changed = false ∧ c.gap = false
  smooth : c.smooth = 0

/-- The values all three resets leave (the tables of R20, R38, R80, R111, R125, R144, R156, R172 and R188). -/
structure Device.AfterReset (d : Device) : Prop where
  engine : d.scan.engine = .stopped ∧ d.scan.tracker = .free ∧ d.scan.slip = none
  chans : ∀ ch, (d.ctx ch).Blank d.profiles.defaultRev
  port : d.map.grant = none ∧ d.map.solverWaiting = false ∧ d.map.execWaiting = false ∧ d.map.scrubWaiting = false
  passes : d.map.execPass = 0 ∧ d.map.scrubPass = 0
  scrubber : d.map.cursor = 0 ∧ d.map.scrubElapsed = 0 ∧ d.map.log = none
  delivery : d.delivery.holding = [] ∧ d.delivery.captures = []
  intake : d.intake.sweep = none ∧ d.intake.promptPending = false ∧ d.intake.elapsed = 0
  slots : d.intake.rotation = 0 ∧ d.intake.inFlight = []
  work : d.exec = none ∧ d.trace = none
  reads : d.link.inFlight = none ∧ d.link.waiting = []
  writes : d.link.buffer = [] ∧ d.link.slotQueue = []
  faults : d.link.halted = false ∧ d.link.faultRecord = none
  control : d.regs.run = false ∧ d.regs.intake = false ∧ d.regs.batch = false ∧ d.regs.mask = 0
  event : d.regs.event = 0 ∧ d.regs.msgPending = false ∧ d.line = false
  counters : ∀ v ∈ d.counters.list, v = 0

end Sys2Proof.Machine
end

