-- ==== Sys2Proof/WellFormed.lean ====
section
/-!
DEFINITION. Which commands can come about as the manual describes them, by their own fields alone. A command
outside this check is still given a meaning (log entry 5): it is no event of the part and changes nothing, or
it is taken as the event its fields do describe.
-/
namespace Sys2Proof

/-- R6, R8: a window part listens to 9 loops, or to a whole axis of 16..128 X or 16..72 Y loops in steps of 4. -/
def partWidthOk (maxLoops n : Nat) : Bool :=
  n == 9 || (decide (16 ≤ n) && decide (n ≤ maxLoops) && n % 4 == 0)

/-- R8: both parts of a window result have a width some window has. -/
def WindowResult.wf : WindowResult → Bool
  | .tip x y _ => partWidthOk 128 x.length && partWidthOk 72 y.length
  | .ring x y _ => partWidthOk 128 x.length && partWidthOk 72 y.length

/-- R173: the write accesses that are discarded: a narrow one, one that crosses a 4-byte boundary (other than the
8-byte one at 0x20), and one to IDENT, STATUS or an offset that holds no register. -/
def discardedAccess (offset width : Nat) : Bool :=
  !(width == 4 && offset % 4 == 0 && [0x04, 0x0C, 0x10, 0x14, 0x18, 0x1C, 0x20, 0x24].contains offset)
    && !(width == 8 && offset == 0x20)

/-- The fields of a command are ones the manual allows for its row. -/
def Instr.wf : Instr → Bool
  | .runSet w => w.getLsbD 0 && !w.getLsbD 4
  | .runClear w => !w.getLsbD 0 && !w.getLsbD 4
  | .intakeSet w => w.getLsbD 1 && !w.getLsbD 4
  | .intakeClear w => !w.getLsbD 1 && !w.getLsbD 4
  | .batch w => !w.getLsbD 4
  | .maskWrite w => !w.getLsbD 4
  | .resume w => w.getLsbD 3 && !w.getLsbD 4
  | .softReset w => w.getLsbD 4
  | .discardedRegisterWrite offset width _ => decide (0 < width.val) && discardedAccess offset.toNat width.val
  | .windowResult _ res => res.wf
  | .stripReadComplete bytes => bytes.length == 128
  | .bodyReadComplete bytes => bytes.length == 64
  | .profileBlockReadComplete bytes => bytes.length == 64
  | .mapPieceReadComplete bytes => bytes.length % 8 == 0 && decide (8 ≤ bytes.length) && decide (bytes.length ≤ 128)
  | .staleReadCompletion bytes => decide (bytes.length ≤ 128)
  | .strokeClockTick us => decide (0 < us)
  | .powerOn _ _ | .linkReset _ _ | .prompt _ | .eventWrite _ | .faultWrite _ _ | .maplogWrite _
  | .tableBaseWrite _ | .frameBoundary | .solverNodeRead | .idleTimeout _ | .syncArrival _ | .lossTimerExpiry
  | .scrubTimerExpiry | .scrub | .mapLoadNodeWrite | .mapReadNodeRead | .sweepTimerExpiry | .capture _ _ _
  | .trace _ _ _ | .scanSetup _ _ _ | .profileLoad _ _ _ _ | .profileRemove _ _ _ | .profileClear _ _
  | .profileDefault _ _ _ _ | .mapLoad _ _ _ | .mapRead _ _ _ | .counters _ _ _ | .cancelMask _ _ _
  | .cancelTrace _ _ | .cancelSlot _ _ _ | .clockSet _ _ _ | .writeAccepted | .readError | .readTimeout
  | .linkDown | .linkUp | .busMasteringChange _ | .mapBitFlip _ _ | .messageInterruptEnableChange _ _ _ => true

end Sys2Proof
end

