-- ==== Sys2Proof/Certificates/Slice0/Obligations.lean ====
section
/-!
DEFINITION. The statements about the 3280 that the provers are asked for. A statement about a command gives the next state
exactly, or names what of it is claimed; t is always the state after. Log entries are those of notes/assumptions.
-/

open Sys2Proof Sys2Proof.Machine

/-! ### The machine -/

/-- Taking a command from the queue: step with c in front is exec of c with the queue's rest, and an empty queue idles (the
model's own convention, log entry 12). -/
def Obligations.StepRunsFrontCommand : Prop :=
  (∀ (d : Device) (c : Instr) (rest : List Instr),
    Sys2Proof.Machine.step { dev := d, pending := c :: rest }
      = Sys2Proof.Machine.exec c { dev := d, pending := rest })
  ∧ ∀ d : Device, Sys2Proof.Machine.step { dev := d, pending := [] } = .next { dev := d, pending := [] }

/-- No command faults or is refused, in any state, and none touches the queue. That one which cannot come about answers next
all the same is the model's own (log entry 5), and so is the queue (log entry 12). -/
def Obligations.EveryCommandCompletes : Prop :=
  ∀ (i : Instr) (s : State), ∃ t, Sys2Proof.Machine.exec i s = .next t ∧ t.pending = s.pending

/-! ### Resets (R20, R38, R80 to R82, R111, R144, R172, R187, R188) -/

/-- POWER_ON leaves the value of every table of resets, the board word's grid, every node (0, 0) with a valid code, the map
ABSENT, no keyed profile, the built-in default profile, and the clock and TABLE BASE at 0. The word of a node is held as log
entry 6 says. -/
def Obligations.PowerOnValues : Prop :=
  ∀ (s : State) (w : BitVec 16) (inputs : LinkInputs), ∃ t,
    Sys2Proof.Machine.exec (.powerOn w inputs) s = .next t ∧ t.pending = s.pending ∧ t.dev.AfterReset
    ∧ t.dev.board = Board.ofWord w ∧ Board.Valid t.dev.board ∧ t.dev.link.inputs = inputs
    ∧ t.dev.scan.rate = .fps480 ∧ t.dev.scan.enables = { a := true, b := false } ∧ t.dev.scan.divisor = 1
    ∧ (∀ i, readNode t.dev.map.nodes i = { cx := 0, cy := 0, flips := 0 }) ∧ t.dev.map.state = .absent
    ∧ t.dev.profiles.entries = [] ∧ t.dev.profiles.default = Profile.builtIn ∧ t.dev.profiles.defaultRev = 0
    ∧ t.dev.clock = 0 ∧ t.dev.regs.tableBase = 0

/-- LINK_RESET takes the board word again, keeps the profiles and the clock, and keeps the map state unless NX or NY changes;
with no grant in progress at the map port it keeps every node word. -/
def Obligations.LinkResetValues : Prop :=
  ∀ (s : State) (w : BitVec 16) (inputs : LinkInputs), ∃ t,
    Sys2Proof.Machine.exec (.linkReset w inputs) s = .next t ∧ t.pending = s.pending ∧ t.dev.AfterReset
    ∧ t.dev.board = Board.ofWord w ∧ Board.Valid t.dev.board ∧ t.dev.link.inputs = inputs
    ∧ t.dev.scan.rate = .fps480 ∧ t.dev.scan.enables = { a := true, b := false } ∧ t.dev.scan.divisor = 1
    ∧ t.dev.profiles = s.dev.profiles ∧ t.dev.clock = s.dev.clock ∧ t.dev.regs.tableBase = 0
    ∧ (t.dev.board.nx = s.dev.board.nx → t.dev.board.ny = s.dev.board.ny → t.dev.map.state = s.dev.map.state)
    ∧ (t.dev.board.nx ≠ s.dev.board.nx ∨ t.dev.board.ny ≠ s.dev.board.ny → t.dev.map.state = .absent)
    ∧ (s.dev.map.grant = none → t.dev.map.nodes = s.dev.map.nodes)

/-- SOFT_RESET keeps the board word, the link inputs, the rate, the enables, the hover divisor, the profiles, the clock, TABLE
BASE and the map state; with no grant in progress at the map port it keeps every node word. -/
def Obligations.SoftResetValues : Prop :=
  ∀ (s : State) (w : BitVec 32), ∃ t,
    Sys2Proof.Machine.exec (.softReset w) s = .next t ∧ t.pending = s.pending ∧ t.dev.AfterReset
    ∧ t.dev.board = s.dev.board ∧ t.dev.link.inputs = s.dev.link.inputs
    ∧ t.dev.scan.rate = s.dev.scan.rate ∧ t.dev.scan.enables = s.dev.scan.enables
    ∧ t.dev.scan.divisor = s.dev.scan.divisor
    ∧ t.dev.profiles = s.dev.profiles ∧ t.dev.clock = s.dev.clock ∧ t.dev.regs.tableBase = s.dev.regs.tableBase
    ∧ t.dev.map.state = s.dev.map.state
    ∧ (s.dev.map.grant = none → t.dev.map.nodes = s.dev.map.nodes)

/-! ### CONTROL (R11, R12, R129, R135, R171, R176, R180) -/

/-- Each of the seven CONTROL commands, with a word its row allows, leaves CONTROL reading RUN, INTAKE, BATCH and the mask as
written, RESUME and RESET 0, and every bit not named 0; TABLE BASE and the stroke clock stay. That each of the seven rows
carries the whole written word is the model's (log entry 3). -/
def Obligations.ControlReadsAsWritten : Prop :=
  ∀ (s : State) (w : BitVec 32) (i : Instr),
    i ∈ [Instr.runSet w, .runClear w, .intakeSet w, .intakeClear w, .batch w, .maskWrite w, .resume w] → i.wf = true →
    ∃ t, Sys2Proof.Machine.exec i s = .next t ∧ t.pending = s.pending
      ∧ t.dev.readRegister 0x04 = (w &&& 0xF07#32).toNat
      ∧ t.dev.regs.tableBase = s.dev.regs.tableBase ∧ t.dev.clock = s.dev.clock

/-- RUN from 0 to 1 with the engine stopped starts a frame at once: its time tag is the clock, its period the rate's, an
enabled IDLE channel is in SEARCH with windows over the whole grid, and a channel not enabled has no windows. With an engine
that is not stopped it changes nothing in the engine, so a pending stop is cancelled. -/
def Obligations.RunSetStartsFrame : Prop :=
  ∀ (s : State) (w : BitVec 32),
    (Instr.runSet w).wf = true → w.getLsbD 3 = false → w.getLsbD 1 = s.dev.regs.intake →
    (s.dev.scan.engine ≠ .stopped →
      ∃ t, Sys2Proof.Machine.exec (.runSet w) s = .next t ∧ t.dev.regs.run = true ∧ t.dev.scan = s.dev.scan
        ∧ t.dev.chans = s.dev.chans)
    ∧ (s.dev.scan.engine = .stopped → s.dev.regs.run = false → s.dev.scan.slip = none → s.dev.NoSetup →
      ∃ t f, Sys2Proof.Machine.exec (.runSet w) s = .next t ∧ t.pending = s.pending ∧ t.dev.regs.run = true
        ∧ t.dev.scan.engine = .running f ∧ t.dev.scan.elapsed = 0
        ∧ f.timeTag = s.dev.clock ∧ f.slipped = false ∧ f.period = s.dev.scan.rate.period
        ∧ (∀ ch, s.dev.scan.enables.get ch = false → f.wins.get ch = none ∧ t.dev.ctx ch = s.dev.ctx ch)
        ∧ (∀ ch, s.dev.scan.enables.get ch = true → (s.dev.ctx ch).state = .idle →
          (t.dev.ctx ch).state = .search ∧ (t.dev.ctx ch).stroke = (s.dev.ctx ch).stroke
          ∧ (t.dev.ctx ch).seq = (s.dev.ctx ch).seq
          ∧ ∃ v, f.wins.get ch = some v ∧ v.tip = none ∧ v.ring = none
            ∧ v.tipX = { origin := 0, width := s.dev.board.nx } ∧ v.tipY = { origin := 0, width := s.dev.board.ny }
            ∧ v.ringX = { origin := 0, width := s.dev.board.nx } ∧ v.ringY = { origin := 0, width := s.dev.board.ny })
        ∧ t.dev.delivery = s.dev.delivery ∧ t.dev.map = s.dev.map ∧ t.dev.profiles = s.dev.profiles
        ∧ t.dev.intake = s.dev.intake ∧ t.dev.exec = s.dev.exec ∧ t.dev.trace = s.dev.trace
        ∧ t.dev.counters = s.dev.counters ∧ t.dev.clock = s.dev.clock)

/-- RUN_CLEAR, INTAKE_SET and BATCH, written with the mask in force, without RESUME, without starting the engine and without
ending intake, change the three fields and nothing else: a frame in progress runs on, and no sweep starts. A message that was
pending is dropped if the interrupt condition does not hold. -/
def Obligations.PlainControlWrites : Prop :=
  ∀ (s : State) (w : BitVec 32) (i : Instr),
    i ∈ [Instr.runClear w, .intakeSet w, .batch w] → i.wf = true → w.getLsbD 3 = false →
    w.extractLsb' 8 4 = s.dev.regs.mask → (w.getLsbD 0 = true → s.dev.regs.run = true) →
    (s.dev.regs.intake = true → w.getLsbD 1 = true) →
    Sys2Proof.Machine.exec i s = .next
      { s with dev := { s.dev with regs := { s.dev.regs with
        run := w.getLsbD 0, intake := w.getLsbD 1, batch := w.getLsbD 2,
        msgPending := s.dev.regs.msgPending && s.dev.regs.condition } } }

/-- INTAKE from 1 to 0 clears prompt pending. A sweep that waits for strip writes, or whose strip read is not yet issued, ends
with that read withdrawn; a sweep whose strip or body read is issued is marked to end at its next slot boundary. A body read
not yet issued is not withdrawn (the model's choice, log entry 17). -/
def Obligations.IntakeClearEndsSweep : Prop :=
  ∀ (s : State) (w : BitVec 32),
    (Instr.intakeClear w).wf = true → w.getLsbD 3 = false → (w.getLsbD 0 = true → s.dev.regs.run = true) →
    s.dev.regs.intake = true →
    ∃ t, Sys2Proof.Machine.exec (.intakeClear w) s = .next t ∧ t.pending = s.pending ∧ t.dev.regs.intake = false
      ∧ t.dev.intake.promptPending = false
      ∧ (s.dev.intake.sweep = none → t.dev.intake.sweep = none)
      ∧ (∀ sw n, s.dev.intake.sweep = some sw → sw.phase = .waitStrips n → t.dev.intake.sweep = none)
      ∧ (∀ sw, s.dev.intake.sweep = some sw → sw.phase = .strip →
        (∃ r ∈ s.dev.link.waiting, r.site = .sweep) →
        t.dev.intake.sweep = none ∧ ∀ r, r ∈ t.dev.link.waiting ↔ r ∈ s.dev.link.waiting ∧ r.site ≠ .sweep)
      ∧ (∀ sw, s.dev.intake.sweep = some sw → sw.phase = .strip →
        (∀ r ∈ s.dev.link.waiting, r.site ≠ .sweep) →
        t.dev.intake.sweep = some { sw with ending := true } ∧ t.dev.link.waiting = s.dev.link.waiting)
      ∧ (∀ sw slot rest, s.dev.intake.sweep = some sw → sw.phase = .body slot rest →
        t.dev.intake.sweep = some { sw with ending := true } ∧ t.dev.link.waiting = s.dev.link.waiting)
      ∧ t.dev.intake.inFlight = s.dev.intake.inFlight ∧ t.dev.intake.rotation = s.dev.intake.rotation
      ∧ t.dev.link.inFlight = s.dev.link.inFlight ∧ t.dev.link.buffer = s.dev.link.buffer
      ∧ t.dev.exec = s.dev.exec ∧ t.dev.trace = s.dev.trace ∧ t.dev.delivery = s.dev.delivery
      ∧ t.dev.scan = s.dev.scan ∧ t.dev.chans = s.dev.chans ∧ t.dev.map = s.dev.map
      ∧ t.dev.regs.event = s.dev.regs.event ∧ t.dev.regs.tableBase = s.dev.regs.tableBase

/-- A write that changes the mask alone tests the interrupt condition at once: while it does not hold the line is deasserted
and no message is pending; when it comes to hold, the line is asserted, or a message is sent, or, with the link DOWN or
mastering off, kept pending; while it goes on holding no message is sent. What has gone out on the link is the model's own
list (log entry 7). -/
def Obligations.MaskWriteTestsCondition : Prop :=
  ∀ (s : State) (w : BitVec 32),
    (Instr.maskWrite w).wf = true → w.getLsbD 3 = false → w.getLsbD 0 = s.dev.regs.run →
    w.getLsbD 1 = s.dev.regs.intake → w.getLsbD 2 = s.dev.regs.batch →
    ∃ t, Sys2Proof.Machine.exec (.maskWrite w) s = .next t
      ∧ t = { s with dev := { s.dev with
          regs := { s.dev.regs with mask := w.extractLsb' 8 4, msgPending := t.dev.regs.msgPending }
          link := { s.dev.link with sent := t.dev.link.sent } } }
      ∧ (t.dev.line = true ↔ s.dev.link.inputs.msiOn = false ∧ s.dev.regs.event &&& w.extractLsb' 8 4 ≠ 0)
      ∧ (s.dev.regs.event &&& w.extractLsb' 8 4 = 0 →
        t.dev.regs.msgPending = false ∧ t.dev.link.sent = s.dev.link.sent)
      ∧ (s.dev.regs.event &&& w.extractLsb' 8 4 ≠ 0 → s.dev.regs.event &&& s.dev.regs.mask ≠ 0 →
        t.dev.regs.msgPending = s.dev.regs.msgPending ∧ t.dev.link.sent = s.dev.link.sent)
      ∧ (s.dev.regs.event &&& w.extractLsb' 8 4 ≠ 0 → s.dev.regs.event &&& s.dev.regs.mask = 0 →
        s.dev.link.inputs.msiOn = true → s.dev.link.inputs.up = true → s.dev.link.inputs.mastering = true →
        t.dev.regs.msgPending = false
        ∧ t.dev.link.sent = .message s.dev.link.inputs.msiAddr s.dev.link.inputs.msiData :: s.dev.link.sent)
      ∧ (s.dev.regs.event &&& w.extractLsb' 8 4 ≠ 0 → s.dev.regs.event &&& s.dev.regs.mask = 0 →
        s.dev.link.inputs.msiOn = true → ¬(s.dev.link.inputs.up = true ∧ s.dev.link.inputs.mastering = true) →
        t.dev.regs.msgPending = true ∧ t.dev.link.sent = s.dev.link.sent)

/-- RESUME, written with the fields CONTROL holds: while HALTED it leaves HALTED, whatever the Fault Record holds, a drain
walk places a held record in a capture that takes its channel, and the head write is issued when the link takes accesses; a
head that cannot be issued faults again at once. Outside HALTED it changes nothing but a pending message whose condition does
not hold. -/
def Obligations.ResumeLeavesHalted : Prop :=
  ∀ (s : State) (w : BitVec 32), (Instr.resume w).wf = true → s.dev.regs.sameFields w →
    (s.dev.link.halted = false → Sys2Proof.Machine.exec (.resume w) s = .next
      { s with dev := { s.dev with regs := { s.dev.regs with
        msgPending := s.dev.regs.msgPending && s.dev.regs.condition } } })
    ∧ (s.dev.link.halted = true → s.dev.link.inputs.up = true → s.dev.link.inputs.mastering = true →
      ∃ t, Sys2Proof.Machine.exec (.resume w) s = .next t ∧ t.pending = s.pending ∧ t.dev.link.halted = false
        ∧ t.dev.link.faultRecord = s.dev.link.faultRecord ∧ t.dev.regs.event = s.dev.regs.event
        ∧ (s.dev.link.buffer ≠ [] → t.dev.link.issued = true)
        ∧ s.dev.link.buffer <+: t.dev.link.buffer
        ∧ t.dev.intake.sweep = s.dev.intake.sweep ∧ t.dev.scan = s.dev.scan ∧ t.dev.chans = s.dev.chans)
    ∧ (∀ r more c, s.dev.link.halted = true → s.dev.QuietWhenHalted → s.dev.link.inputs.up = true →
      s.dev.link.inputs.mastering = true → s.dev.link.buffer = [] → s.dev.link.issued = false →
      s.dev.link.slotQueue = [] → s.dev.delivery.holding = r :: more → s.dev.delivery.captures = [c] →
      c.mask.get r.ch = true → (∀ x ∈ more, c.mask.get x.ch = false) → c.count + 1 < c.capacity →
      (c.endOnLift = true → r.flags.strokeEnd = false) → (c.endOnProxOut = true → r.event ≠ .proxOut) →
      s.dev.regs.msgPending = false →
      let record : HostWrite :=
        { role := .record, addr := c.buffer + BitVec.ofNat 64 (32 * c.count), data := r.image }
      let c' : Capture := { c with
        count := c.count + 1, last := some { ch := r.ch, seq := r.seq, timeTag := r.timeTag }, elapsed := 0 }
      ∃ t, Sys2Proof.Machine.exec (.resume w) s = .next t
        ∧ t = { s with dev := { s.dev with
            link := { s.dev.link with halted := false, buffer := [record], issued := true }
            delivery := { s.dev.delivery with holding := more, captures := [c'] }
            counters := { s.dev.counters with delivered := t.dev.counters.delivered } } }
        ∧ t.dev.counters.delivered.get r.ch = s.dev.counters.delivered.get r.ch + 1)
    ∧ (s.dev.link.halted = true → ¬(s.dev.link.inputs.up = true ∧ s.dev.link.inputs.mastering = true) →
      s.dev.QuietWhenHalted → s.dev.delivery.holding = [] → s.dev.link.buffer ≠ [] → s.dev.link.issued = false →
      ∃ t, Sys2Proof.Machine.exec (.resume w) s = .next t ∧ t.pending = s.pending ∧ t.dev.link.halted = true
        ∧ t.dev.regs.event = s.dev.regs.event ||| 2
        ∧ (∃ e, t.dev.link.faultRecord = some e)
        ∧ (∀ e, s.dev.link.faultRecord = some e → t.dev.link.faultRecord = some e)
        ∧ (s.dev.link.faultRecord = none → s.dev.link.inputs.up = true →
          t.dev.link.faultRecord = some { cls := .masterOff, site := .drain, slot := none, clock := s.dev.clock }))

/-! ### The other registers (R69, R130, R168, R173, R175, R178, R179, R181) -/

/-- PROMPT: discarded while INTAKE is 0 or the part is HALTED; sets prompt pending during a sweep; otherwise starts a sweep
under TABLE BASE, which first waits for the strip writes in the buffer, and asks for its strip read when there are none; a
strip read that the link cannot take ends the sweep with a fault at site SWEEP. With the link DOWN and mastering off together
the class is either (log entry 2). The fault pauses the idle timers, one that was due one µs short of its timeout (log entry
38). -/
def Obligations.PromptStartsSweep : Prop :=
  ∀ (s : State) (v : BitVec 32),
    (s.dev.regs.intake = false ∨ s.dev.link.halted = true → Sys2Proof.Machine.exec (.prompt v) s = .next s)
    ∧ (s.dev.regs.intake = true → s.dev.link.halted = false → s.dev.intake.sweep ≠ none →
      Sys2Proof.Machine.exec (.prompt v) s = .next
        { s with dev := { s.dev with intake := { s.dev.intake with promptPending := true } } })
    ∧ (s.dev.regs.intake = true → s.dev.link.halted = false → s.dev.intake.sweep = none →
      (∀ w ∈ s.dev.link.buffer, w.isStrip = false) → s.dev.link.waiting = [] →
      let sw : Sweep := { base := s.dev.regs.tableBase, phase := .strip, snapshot := [], held := [], ending := false }
      let rd : ReadReq := { site := .sweep, slot := none, addr := s.dev.regs.tableBase, len := 128 }
      (s.dev.link.inFlight = none → s.dev.link.inputs.up = true → s.dev.link.inputs.mastering = true →
        Sys2Proof.Machine.exec (.prompt v) s = .next
          { s with dev := { s.dev with
            intake := { s.dev.intake with sweep := some sw }
            link := { s.dev.link with inFlight := some { req := rd, elapsed := 0 } } } })
      ∧ (s.dev.link.inFlight ≠ none →
        Sys2Proof.Machine.exec (.prompt v) s = .next
          { s with dev := { s.dev with
            intake := { s.dev.intake with sweep := some sw }
            link := { s.dev.link with waiting := [rd] } } })
      ∧ (s.dev.link.inFlight = none → s.dev.link.inputs.up = false ∨ s.dev.link.inputs.mastering = false →
        ∃ t, Sys2Proof.Machine.exec (.prompt v) s = .next t ∧ t.pending = s.pending ∧ t.dev.link.halted = true
          ∧ t.dev.regs.event.getLsbD 1 = true ∧ t.dev.intake.sweep = none
          ∧ t.dev.intake.promptPending = false ∧ t.dev.link.inFlight = none ∧ t.dev.link.waiting = []
          ∧ (∀ e, s.dev.link.faultRecord = some e → t.dev.link.faultRecord = some e)
          ∧ (s.dev.link.faultRecord = none → ∃ cls, t.dev.link.faultRecord = some
            { cls := cls, site := .sweep, slot := none, clock := s.dev.clock }
            ∧ (cls = .masterOff ∧ s.dev.link.inputs.mastering = false
              ∨ cls = .linkDown ∧ s.dev.link.inputs.up = false))
          ∧ t.dev.exec = none ∧ t.dev.trace = none ∧ t.dev.delivery = s.dev.delivery.paused ∧ t.dev.scan = s.dev.scan
          ∧ t.dev.chans = s.dev.chans ∧ t.dev.profiles = s.dev.profiles ∧ t.dev.clock = s.dev.clock))
    ∧ (s.dev.regs.intake = true → s.dev.link.halted = false → s.dev.intake.sweep = none →
      ∀ before w after, s.dev.link.buffer = before ++ w :: after → w.isStrip = true →
      (∀ x ∈ after, x.isStrip = false) →
      let sw : Sweep :=
        { base := s.dev.regs.tableBase, phase := .waitStrips (before.length + 1), snapshot := [], held := [],
          ending := false }
      Sys2Proof.Machine.exec (.prompt v) s = .next
        { s with dev := { s.dev with intake := { s.dev.intake with sweep := some sw } } })

/-- EVENT_WRITE clears each cause whose bit is 1 and leaves the others; it sends no message, and a pending message is dropped
when the condition stops holding. FAULT_WRITE to either word empties the Fault Record and leaves EVENT.FAULT and HALTED;
MAPLOG_WRITE empties the Map Error Log and leaves EVENT.MAPERR; the registers then read 0. Nothing else changes. -/
def Obligations.EventAndRecordWrites : Prop :=
  ∀ (s : State) (word : FaultWord) (v : BitVec 32),
    let left := s.dev.regs.event &&& ~~~v.extractLsb' 0 4
    Sys2Proof.Machine.exec (.eventWrite v) s = .next
      { s with dev := { s.dev with regs := { s.dev.regs with
        event := left, msgPending := s.dev.regs.msgPending && (left &&& s.dev.regs.mask != 0) } } }
    ∧ (∃ t, Sys2Proof.Machine.exec (.faultWrite word v) s = .next t
      ∧ t = { s with dev := { s.dev with link := { s.dev.link with faultRecord := none } } }
      ∧ t.dev.readRegister 0x14 = 0 ∧ t.dev.readRegister 0x1C = 0
      ∧ t.dev.readRegister 0x08 = s.dev.readRegister 0x08 ∧ t.dev.readRegister 0x0C = s.dev.readRegister 0x0C)
    ∧ ∃ t, Sys2Proof.Machine.exec (.maplogWrite v) s = .next t
      ∧ t = { s with dev := { s.dev with map := { s.dev.map with log := none } } }
      ∧ t.dev.readRegister 0x18 = 0 ∧ t.dev.readRegister 0x0C = s.dev.readRegister 0x0C

/-- TABLE_BASE_WRITE: discarded while INTAKE is 1; while it is 0 each word takes the written value, the low word with its bits
0..11 at 0, the other word stays, and an 8-byte access writes both; nothing else changes. DISCARDED_REGISTER_WRITE: a write to
IDENT, STATUS or an offset that holds no register, a write narrower than 4 bytes, and one that crosses a 4-byte boundary (but
for 8 bytes at 0x20) change nothing. -/
def Obligations.TableBaseAndDiscardedWrites : Prop :=
  ∀ (s : State) (v : BitVec 32) (u : BitVec 64),
    (∀ (offset : BitVec 6) (width : Fin 9) (x : BitVec 64),
      width.val < 4 ∨ (offset.toNat % 4 + width.val > 4 ∧ ¬(width.val = 8 ∧ offset.toNat = 0x20))
        ∨ (width.val = 4 ∧ (offset = 0x00 ∨ offset = 0x08 ∨ 0x28 ≤ offset.toNat)) →
      Sys2Proof.Machine.exec (.discardedRegisterWrite offset width x) s = .next s)
    ∧ (∀ a, s.dev.regs.intake = true → Sys2Proof.Machine.exec (.tableBaseWrite a) s = .next s)
    ∧ (s.dev.regs.intake = false →
      (∃ t, Sys2Proof.Machine.exec (.tableBaseWrite (.low v)) s = .next t
        ∧ t = { s with dev := { s.dev with regs := { s.dev.regs with tableBase := t.dev.regs.tableBase } } }
        ∧ t.dev.readRegister 0x20 = v.toNat - v.toNat % 4096 ∧ t.dev.readRegister 0x24 = s.dev.readRegister 0x24)
      ∧ (∃ t, Sys2Proof.Machine.exec (.tableBaseWrite (.high v)) s = .next t
        ∧ t = { s with dev := { s.dev with regs := { s.dev.regs with tableBase := t.dev.regs.tableBase } } }
        ∧ t.dev.readRegister 0x20 = s.dev.readRegister 0x20 ∧ t.dev.readRegister 0x24 = v.toNat)
      ∧ ∃ t, Sys2Proof.Machine.exec (.tableBaseWrite (.both u)) s = .next t
        ∧ t = { s with dev := { s.dev with regs := { s.dev.regs with tableBase := t.dev.regs.tableBase } } }
        ∧ t.dev.regs.tableBase.toNat = u.toNat - u.toNat % 4096)

/-- IDENT and STATUS show their fields at the bits of R174's and R175's tables, as the units stand at the read (R178), for a
grid within the limits and queues within theirs. A held fault shows its class, its site, the slot if it has one, and the
clock; a held entry of the Map Error Log its outcome, source, bit position and node; an empty record and an empty log read 0;
bits not named read 0. A read access gives the 4 bytes of a register at its offset, TABLE BASE's 8 bytes at 0x20, the addressed
bytes of the register for a narrower one, and 0 for any other that crosses a 4-byte boundary or finds no register. That no
command stands for a read is the table's (log entry 24). -/
def Obligations.IdentAndStatusFields : Prop :=
  (∀ d : Device, Board.Valid d.board → d.Bounded →
    d.identReg % 2 ^ 16 = 0x3280 ∧ d.identReg / 2 ^ 16 % 2 ^ 4 = 2
    ∧ 4 * (d.identReg / 2 ^ 20 % 2 ^ 6) = d.board.nx ∧ 4 * (d.identReg / 2 ^ 26 % 2 ^ 5) = d.board.ny
    ∧ d.identReg / 2 ^ 31 = (if d.board.bFitted then 1 else 0)
    ∧ (d.statusReg % 2 = 1 ↔ d.link.halted = true) ∧ (d.statusReg / 2 % 2 = 1 ↔ d.map.state = .ready)
    ∧ (d.statusReg / 2 ^ 2 % 4 = 0 ↔ d.trace = none)
    ∧ (∀ t, d.trace = some t → t.capturing = false → d.statusReg / 2 ^ 2 % 4 = 1)
    ∧ (∀ t, d.trace = some t → t.capturing = true → d.statusReg / 2 ^ 2 % 4 = 2)
    ∧ (d.statusReg / 2 ^ 4 % 2 = 1 ↔ d.exec ≠ none)
    ∧ d.statusReg / 2 ^ 5 % 2 ^ 3 = 0 ∧ d.statusReg / 2 ^ 14 % 2 ^ 2 = 0 ∧ d.statusReg / 2 ^ 23 % 2 = 0
    ∧ d.statusReg / 2 ^ 8 % 2 ^ 5 = d.delivery.captures.length
    ∧ (d.statusReg / 2 ^ 13 % 2 = 1 ↔ d.delivery.captures.length = 16)
    ∧ d.statusReg / 2 ^ 16 % 2 ^ 7 = d.delivery.holding.length
    ∧ (d.statusReg / 2 ^ 24 = 0 ↔ d.scan.tracker = .free) ∧ (d.statusReg / 2 ^ 24 = 1 ↔ d.scan.tracker = .centre)
    ∧ (d.statusReg / 2 ^ 24 = 2 ↔ d.scan.tracker = .lead) ∧ (d.statusReg / 2 ^ 24 = 3 ↔ d.scan.tracker = .lag))
  ∧ (∀ (d : Device) (e : FaultEntry), d.link.faultRecord = some e →
    let v := d.readRegister 0x14
    v % 2 = 1
    ∧ (v / 2 % 8 = 1 ↔ e.cls = .readError) ∧ (v / 2 % 8 = 2 ↔ e.cls = .readTimeout)
    ∧ (v / 2 % 8 = 3 ↔ e.cls = .masterOff) ∧ (v / 2 % 8 = 4 ↔ e.cls = .linkDown)
    ∧ (v / 2 ^ 4 % 4 = 0 ↔ e.site = .sweep) ∧ (v / 2 ^ 4 % 4 = 1 ↔ e.site = .body)
    ∧ (v / 2 ^ 4 % 4 = 2 ↔ e.site = .executor) ∧ (v / 2 ^ 4 % 4 = 3 ↔ e.site = .drain)
    ∧ (e.slot = none → v / 2 ^ 6 = 0)
    ∧ (∀ slot, e.slot = some slot → v / 2 ^ 6 % 4 = 1 ∧ v / 2 ^ 8 = slot.val)
    ∧ d.readRegister 0x1C = e.clock.toNat)
  ∧ (∀ d : Device, d.readRegister 0x00 = d.identReg ∧ d.readRegister 0x08 = d.statusReg
    ∧ d.readRegister 0x0C = d.regs.event.toNat ∧ d.readRegister 0x10 = 0
    ∧ (d.link.faultRecord = none → d.readRegister 0x14 = 0 ∧ d.readRegister 0x1C = 0)
    ∧ (d.map.log = none → d.readRegister 0x18 = 0))
  ∧ (∀ (d : Device) (offset width : Nat), Board.Valid d.board → d.Bounded →
    (offset % 4 = 0 → (∀ e, d.map.log = some e → e.bit < 128 ∧ e.node < 1024) →
      d.readAccess offset 4 = d.readRegister offset)
    ∧ d.readAccess 0x20 8 = d.readRegister 0x20 + 2 ^ 32 * d.readRegister 0x24
    ∧ (offset % 4 + width ≤ 4 → d.readAccess offset width < 2 ^ (8 * width)
      ∧ ∀ k < width, d.readAccess offset width / 2 ^ (8 * k) % 2 ^ 8
        = d.readRegister (offset - offset % 4) / 2 ^ (8 * (offset % 4 + k)) % 2 ^ 8)
    ∧ (4 < offset % 4 + width → ¬(offset = 0x20 ∧ width = 8) → d.readAccess offset width = 0)
    ∧ (0x28 ≤ offset → offset < 0x40 → d.readAccess offset width = 0))
  ∧ ∀ (d : Device) (e : MapLogEntry), d.map.log = some e → e.bit < 128 → e.node < 1024 →
    let v := d.readRegister 0x18
    v % 2 = 1 ∧ (v / 2 % 2 = 1 ↔ e.outcome = .uncorrectable)
    ∧ (v / 2 ^ 2 % 2 ^ 6 = 0 ↔ e.source = .solver) ∧ (v / 2 ^ 2 % 2 ^ 6 = 1 ↔ e.source = .scrubber)
    ∧ (v / 2 ^ 2 % 2 ^ 6 = 2 ↔ e.source = .executor)
    ∧ v / 2 ^ 8 % 2 ^ 8 = e.bit ∧ v / 2 ^ 16 = e.node

/-! ### Scanning (R4 to R20, R52, R182) -/

/-- FRAME_BOUNDARY, the frame's period over and RUN 1. A channel without results stays as it is; one with results takes its
step, channel A first, by the tables of Device.Steps: symbol, profile, transition, then a record produced and held (here with
no capture open and no trace held), one held back, or none. With both done the frame counts and the next frame starts with the
clock as its time tag, its period lengthened or shortened by 40 µs by a pending slip, which marks it slipped; enabled IDLE
channels go to SEARCH, and each enabled channel's four window parts are placed, over the whole grid in SEARCH and nine loops
around its last peaks otherwise. A step that yields a record with the map READY makes the boundary wait: channel A's before
channel B has stepped, channel B's after. Its first node read is granted at once when the port is free; that it is the node of
the point's cell with the lowest column and row is the model's order of the four reads (log entry 30). Before the period is
over nothing happens (log entry 11); a late expiry starts the frame timer from 0 (log entry 26). -/
def Obligations.FrameBoundaryStartsNextFrame : Prop :=
  ∀ (s : State) (f : Frame), s.dev.scan.engine = .running f →
    (s.dev.scan.elapsed < f.period → Sys2Proof.Machine.exec .frameBoundary s = .next s)
    ∧ (f.period ≤ s.dev.scan.elapsed → s.dev.Calm → s.dev.NoSetup → s.dev.scan.arrivals = [] → s.dev.regs.run = true →
      f.Unheard ∨ (s.dev.trace = none ∧ s.dev.delivery.captures = []) →
      let on := s.dev.scan.enables
      let one (q : Option Record) : BitVec 32 := if q = none then 0 else 1
      let waits (d : Device) (job : SolverJob) (todo : List Channel) : State :=
        let st := stages d.board job.results job.profile
        let node := st.y / 1024 * (d.board.nx / 4 + 1) + st.x / 1024
        let g : Grant := { who := .solver, node := node, word := readNode d.map.nodes node }
        { s with dev := { d with
          scan := { d.scan with
            engine := .boundary { frame := f, realign := false, job := job, todo := todo }, elapsed := 0 }
          map := { d.map with grant := some g, solverWaiting := false } } }
      (∀ ca qa na cb qb nb, s.dev.Ends f .a ca qa na → s.dev.Ends f .b cb qb nb →
        ∃ t g, Sys2Proof.Machine.exec .frameBoundary s = .next t ∧ t.pending = s.pending
          ∧ t.dev = { s.dev with
              chans := t.dev.chans
              delivery := { s.dev.delivery with holding := qa.toList ++ qb.toList }
              counters := { s.dev.counters with
                framesRun := s.dev.counters.framesRun + 1
                identFailures := s.dev.counters.identFailures + na + nb
                produced := { a := s.dev.counters.produced.a + one qa, b := s.dev.counters.produced.b + one qb } }
              scan := { s.dev.scan with engine := .running g, elapsed := 0, slip := none } }
          ∧ g.timeTag = s.dev.clock ∧ (g.slipped = true ↔ s.dev.scan.slip ≠ none)
          ∧ (s.dev.scan.slip = none → g.period = s.dev.scan.rate.period)
          ∧ (s.dev.scan.slip = some .lead → g.period = s.dev.scan.rate.period + 40)
          ∧ (s.dev.scan.slip = some .lag → g.period = s.dev.scan.rate.period - 40)
          ∧ ∀ ch c, (ch = .a → c = ca) → (ch = .b → c = cb) →
            (on.get ch = false → g.wins.get ch = none ∧ t.dev.ctx ch = c)
            ∧ (on.get ch = true → c.state ≠ .idle → t.dev.ctx ch = c)
            ∧ (on.get ch = true → c.state = .idle → (t.dev.ctx ch).state = .search)
            ∧ (on.get ch = true → (t.dev.ctx ch).state = .search →
              ∃ w, g.wins.get ch = some w ∧ w.tip = none ∧ w.ring = none
                ∧ w.tipX = { origin := 0, width := s.dev.board.nx } ∧ w.tipY = { origin := 0, width := s.dev.board.ny }
                ∧ w.ringX = { origin := 0, width := s.dev.board.nx } ∧ w.ringY = { origin := 0, width := s.dev.board.ny })
            ∧ (on.get ch = true → c.state.tracked = true →
              ∃ w, g.wins.get ch = some w ∧ w.tip = none ∧ w.ring = none
                ∧ w.tipX.width = 9 ∧ w.tipY.width = 9 ∧ w.ringX.width = 9 ∧ w.ringY.width = 9
                ∧ w.tipX.origin = min (c.peakTipX - 4) (s.dev.board.nx - 9)
                ∧ w.tipY.origin = min (c.peakTipY - 4) (s.dev.board.ny - 9)
                ∧ w.ringX.origin = min (c.peakRingX - 4) (s.dev.board.nx - 9)
                ∧ w.ringY.origin = min (c.peakRingY - 4) (s.dev.board.ny - 9)))
      ∧ (s.dev.map.grant = none → s.dev.map.execWaiting = false → s.dev.map.scrubWaiting = false →
        (∀ r c1 c job, f.results .a = some r → s.dev.Waits .a r c1 c job →
          let d : Device := { s.dev with
            chans := { s.dev.chans with a := c }
            counters := { s.dev.counters with identFailures := s.dev.counters.identFailures + s.dev.fails .a c1 } }
          Sys2Proof.Machine.exec .frameBoundary s = .next (waits d job [.b]))
        ∧ ∀ ca qa na r c1 c job, s.dev.Ends f .a ca qa na → f.results .b = some r → s.dev.Waits .b r c1 c job →
          let d : Device := { s.dev with
            chans := { a := ca, b := c }
            delivery := { s.dev.delivery with holding := qa.toList }
            counters := { s.dev.counters with
              identFailures := s.dev.counters.identFailures + na + s.dev.fails .b c1
              produced := { s.dev.counters.produced with a := s.dev.counters.produced.a + one qa } } }
          Sys2Proof.Machine.exec .frameBoundary s = .next (waits d job [])))

/-- FRAME_BOUNDARY with RUN 0 stops the engine: every channel goes to IDLE, the tracker to FREE with no slip pending, and the
frame counts. A tracked channel A first produces a PROX_OUT at its last position with the frame's time tag, SLIP if the frame
was slipped, and STROKE_END if a stroke was open; while HALTED it is the newest held record. A SCAN_SETUP
that waits is applied at the stop, with the clock in its result. -/
def Obligations.FrameBoundaryStops : Prop :=
  ∀ (s : State) (f : Frame), s.dev.scan.engine = .running f → f.period ≤ s.dev.scan.elapsed → f.Unheard →
    s.dev.scan.arrivals = [] → s.dev.regs.run = false → (s.dev.ctx .b).state.tracked = false →
    (∀ slot q rate, s.dev.exec = some { slot := slot, work := .scanSetup q } → s.dev.Calm → s.dev.trace = none →
      (s.dev.ctx .a).state.tracked = false → [Rate.fps240, .fps360, .fps480][q.rate.toNat]? = some rate →
      let enA := q.enables.getLsbD 0
      let enB := q.enables.getLsbD 1 && s.dev.board.bFitted
      let divisor := max 1 (min q.divisor.toNat 4)
      let dt : Detail := if q.enables.getLsbD 1 = true ∧ s.dev.board.bFitted = false then .notFitted else .none
      let fields := le 1 (bit enA + 2 * bit enB) ++ le 1 divisor ++ le 2 0 ++ le 4 s.dev.clock.toNat
      let m := s.dev.markOf slot
      ∃ t, Sys2Proof.Machine.exec .frameBoundary s = .next t ∧ t.pending = s.pending
        ∧ t.dev = Device.wrote { s.dev with
            chans := t.dev.chans
            counters := { s.dev.counters with framesRun := s.dev.counters.framesRun + 1 }
            exec := none
            intake := { s.dev.intake with inFlight := s.dev.intake.inFlight.filter fun x => x.slot != slot }
            scan := { s.dev.scan with
              engine := .stopped, elapsed := 0, tracker := .free, slip := none, lossElapsed := 0
              rate := rate, enables := { a := enA, b := enB }, divisor := divisor } }
            [resultWrite m .ok dt fields, doneWrite m]
        ∧ ∀ ch, (t.dev.ctx ch).state = .idle)
    ∧ (s.dev.NoSetup → s.dev.Calm → s.dev.trace = none → (s.dev.ctx .a).state.tracked = false →
      ∃ t, Sys2Proof.Machine.exec .frameBoundary s = .next t ∧ t.pending = s.pending
        ∧ t.dev = { s.dev with
            chans := t.dev.chans
            counters := { s.dev.counters with framesRun := s.dev.counters.framesRun + 1 }
            scan := { s.dev.scan with
              engine := .stopped, elapsed := 0, tracker := .free, slip := none, lossElapsed := 0 } }
        ∧ ∀ ch, (t.dev.ctx ch).state = .idle ∧ (t.dev.ctx ch).stroke = (s.dev.ctx ch).stroke
          ∧ (t.dev.ctx ch).seq = (s.dev.ctx ch).seq)
    ∧ (s.dev.link.halted = true → s.dev.QuietWhenHalted → s.dev.delivery.holding.length < 64 →
      (s.dev.ctx .a).state.tracked = true →
      ∃ t r, Sys2Proof.Machine.exec .frameBoundary s = .next t ∧ t.pending = s.pending
        ∧ t.dev.scan.engine = .stopped ∧ t.dev.scan.tracker = .free ∧ t.dev.scan.slip = none
        ∧ (∀ ch, (t.dev.ctx ch).state = .idle) ∧ (t.dev.ctx .a).seq = (s.dev.ctx .a).seq + 1
        ∧ (t.dev.ctx .a).stroke = (s.dev.ctx .a).stroke ∧ (t.dev.ctx .a).gap = false
        ∧ t.dev.delivery.holding = s.dev.delivery.holding ++ [r] ∧ t.dev.delivery.captures = s.dev.delivery.captures
        ∧ t.dev.counters.produced.a = s.dev.counters.produced.a + 1
        ∧ t.dev.counters.framesRun = s.dev.counters.framesRun + 1
        ∧ r.ch = .a ∧ r.state = .none ∧ r.event = .proxOut ∧ r.timeTag = f.timeTag ∧ r.flags.slip = f.slipped
        ∧ r.x = (s.dev.ctx .a).lastX ∧ r.y = (s.dev.ctx .a).lastY ∧ r.pressure = 0 ∧ r.tiltX = 0 ∧ r.tiltY = 0
        ∧ r.phase = 0 ∧ r.seq = (s.dev.ctx .a).seq ∧ r.stroke = (s.dev.ctx .a).stroke
        ∧ r.flags.gap = (s.dev.ctx .a).gap
        ∧ (r.flags.strokeEnd = true ↔ (s.dev.ctx .a).state = .contact
          ∨ (s.dev.ctx .a).state = .coast ∧ (s.dev.ctx .a).prevContact = true)
        ∧ (r.flags.toolPending = true ↔ (s.dev.ctx .a).ident = .unknown ∨ (s.dev.ctx .a).ident = .reading)
        ∧ (r.flags.toolFailed = true ↔ (s.dev.ctx .a).ident = .failed)
        ∧ r.tool = (if (s.dev.ctx .a).ident = .known then (s.dev.ctx .a).code else 0))

/-- WINDOW_RESULT: the tip window of channel A, or of channel B once channel A has nothing to complete, keeps its amplitudes
and phase code when they are as many as the loops listened to; the ring window follows its channel's tip window. A result
while the engine is stopped cannot come about and changes nothing (log entry 5). -/
def Obligations.WindowResultIsKept : Prop :=
  ∀ (s : State) (ch : Channel) (x y : List Amp) (r : BitVec 12) (m : Symbol),
    (∀ res, s.dev.scan.engine = .stopped → Sys2Proof.Machine.exec (.windowResult ch res) s = .next s)
    ∧ ∀ (f : Frame) (w : ChannelWindows), s.dev.scan.engine = .running f → f.wins.get ch = some w →
      (ch = .b → ∀ v, f.wins.a = some v → v.tip ≠ none ∧ v.ring ≠ none) →
      (w.tip = none → x.length = w.tipX.width → y.length = w.tipY.width →
        Sys2Proof.Machine.exec (.windowResult ch (.tip x y r)) s = .next
          { s with dev := { s.dev with scan := { s.dev.scan with
            engine := .running { f with wins := f.wins.set ch (some { w with tip := some { x := x, y := y, r := r } }) } } } })
      ∧ (w.tip ≠ none → w.ring = none → x.length = w.ringX.width → y.length = w.ringY.width →
        Sys2Proof.Machine.exec (.windowResult ch (.ring x y m)) s = .next
          { s with dev := { s.dev with scan := { s.dev.scan with
            engine := .running { f with wins := f.wins.set ch (some { w with ring := some { x := x, y := y, s := m } }) } } } })

/-- SOLVER_NODE_READ, one of the first three of a record: the outcome is counted and offered to the Map Error Log with source
SOLVER, as Device.Notes says; the read's correction is kept, (0, 0) if UNCORRECTABLE, and the next of the four nodes of the
point's cell is granted when no other requester waits. That the next node is the next in the order (i, j), (i+1, j), (i, j+1),
(i+1, j+1) is the model's (log entry 30). -/
def Obligations.SolverReadPlacesNext : Prop :=
  ∀ (s : State) (b : Boundary) (g : Grant), s.dev.map.grant = some g → g.who = .solver →
    s.dev.scan.engine = .boundary b → b.job.got.length < 3 → s.dev.map.execWaiting = false →
    s.dev.map.scrubWaiting = false → s.dev.map.solverWaiting = false →
    let st := stages s.dev.board b.job.results b.job.profile
    let n := b.job.got.length + 1
    let node := (st.y / 1024 + n / 2) * (s.dev.board.nx / 4 + 1) + st.x / 1024 + n % 2
    let next : Grant := { who := .solver, node := node, word := readNode s.dev.map.nodes node }
    let used : Correction := { cx := limitPart g.word.cx.toInt, cy := limitPart g.word.cy.toInt, bad := false }
    ∀ (o : ReadOutcome) (d : Device), s.dev.Notes g.node g.word .solver o d →
      let c : Correction := if o = .uncorrectable then { cx := 0, cy := 0, bad := true } else used
      Sys2Proof.Machine.exec .solverNodeRead s = .next { s with dev := { d with
        scan := { s.dev.scan with engine := .boundary { b with job := { b.job with got := b.job.got ++ [c] } } }
        map := { d.map with grant := some next } } }

/-- SOLVER_NODE_READ, the fourth of a record, on a CLEAN node: the record is produced with the corrected position, its
sequence number is spent, and with no channel left to step the next frame starts. While HALTED it is the newest held record;
in a calm part with no record held and a capture that takes its channel it is written straight into the capture's buffer,
and the capture then goes on or completes for PROX_OUT, LIFT or FULL, in that order of precedence. That the fourth answer is
the correction of the node (i+1, j+1), and the others those before it, is the model's order of the four reads (log entry
30). -/
def Obligations.SolverLastReadProducesRecord : Prop :=
  ∀ (s : State) (b : Boundary) (g : Grant), s.dev.map.grant = some g → g.who = .solver → g.word.flips = 0 →
    s.dev.scan.engine = .boundary b → b.job.got.length = 3 →
    (∀ ch ∈ b.todo, b.frame.results ch = none) → b.realign = false →
    s.dev.scan.arrivals = [] → s.dev.regs.run = true →
    let j := b.job
    let c := s.dev.ctx j.ch
    let st := stages s.dev.board j.results j.profile
    let got := j.got ++ [{ cx := limitPart g.word.cx.toInt, cy := limitPart g.word.cy.toInt, bad := false }]
    let pt := correctPoint s.dev.board st.x st.y got
    let made (r : Record) : Prop :=
      r.ch = j.ch ∧ r.state = j.yield.state ∧ r.event = j.yield.event ∧ r.x = pt.1 ∧ r.y = pt.2
      ∧ r.timeTag = j.results.timeTag ∧ r.phase = j.results.r ∧ r.stroke = c.stroke ∧ r.seq = c.seq
      ∧ r.tiltX = st.tiltX ∧ r.tiltY = st.tiltY ∧ r.flags.noMap = false
      ∧ (r.flags.mapFault = true ↔ ∃ k ∈ j.got, k.bad = true)
      ∧ r.flags.gap = c.gap ∧ r.flags.bridged = c.bridged ∧ r.flags.profileChanged = c.changed
      ∧ r.flags.strokeEnd = j.yield.strokeEnd
    let stepped (t : State) : Prop := ∃ f,
      Sys2Proof.Machine.exec .solverNodeRead s = .next t ∧ t.pending = s.pending
      ∧ (t.dev.ctx j.ch).seq = c.seq + 1 ∧ (t.dev.ctx j.ch).gap = false
      ∧ (t.dev.ctx j.ch).lastX = pt.1 ∧ (t.dev.ctx j.ch).lastY = pt.2
      ∧ t.dev.counters.produced.get j.ch = s.dev.counters.produced.get j.ch + 1
      ∧ t.dev.counters.framesRun = s.dev.counters.framesRun + 1
      ∧ t.dev.scan.engine = .running f ∧ f.timeTag = s.dev.clock
    (s.dev.link.halted = true → s.dev.QuietWhenHalted → s.dev.delivery.holding.length < 64 →
      ∃ t r, stepped t ∧ made r ∧ t.dev.delivery.holding = s.dev.delivery.holding ++ [r])
    ∧ ∀ k : Capture, s.dev.Calm → s.dev.NoSetup → s.dev.trace = none → s.dev.delivery.captures = [k] →
      k.mask.get j.ch = true →
      let m := s.dev.markOf k.slot
      ∃ t r, stepped t ∧ made r ∧ t.dev.delivery.holding = [] ∧ t.dev.link.slotQueue = []
        ∧ t.dev.link.issued = true
        ∧ t.dev.counters.delivered.get j.ch = s.dev.counters.delivered.get j.ch + 1
        ∧ (let record : HostWrite :=
             { role := .record, addr := k.buffer + BitVec.ofNat 64 (32 * k.count), data := r.image }
           let k' : Capture := { k with
             count := k.count + 1, last := some { ch := r.ch, seq := r.seq, timeTag := r.timeTag }, elapsed := 0 }
           let proxOut := k.endOnProxOut = true ∧ r.event = .proxOut
           let lift := k.endOnLift = true ∧ r.flags.strokeEnd = true
           let full := k.count + 1 = k.capacity
           let completes (e : Reason) : Prop :=
             t.dev.delivery.captures = []
             ∧ t.dev.link.buffer = [record, resultWrite m .ok .none (k'.fields e), doneWrite m]
             ∧ t.dev.isInFlight k.slot = false
           (¬proxOut → ¬lift → ¬full → t.dev.delivery.captures = [k'] ∧ t.dev.link.buffer = [record]
             ∧ t.dev.intake = s.dev.intake)
           ∧ (proxOut → completes .proxOut ∧ t.dev.counters.capProxOut = s.dev.counters.capProxOut + 1)
           ∧ (¬proxOut → lift → completes .lift ∧ t.dev.counters.capLift = s.dev.counters.capLift + 1)
           ∧ (¬proxOut → ¬lift → full → completes .full ∧ t.dev.counters.capFull = s.dev.counters.capFull + 1))

/-- SYNC_ARRIVAL while in step, at the edge the polarity selects: with e the time since the frame start, or less the period
when more than half of it has passed, the tracker moves and a slip is set by the table of R16; the slips counter rises exactly
when a slip is set, a pending slip otherwise stays, and the loss timer is restarted. -/
def Obligations.SyncArrivalMovesTracker : Prop :=
  ∀ (s : State) (f : Frame) (edge : Edge), s.dev.scan.engine = .running f → s.dev.scan.tracker ≠ .free →
    s.dev.scan.arrivals = [] → (edge = .falling ↔ s.dev.board.falling = true) →
    (∀ slot dest clear, s.dev.exec ≠ some { slot := slot, work := .counters dest clear }) →
    let e : Int :=
      if 2 * s.dev.scan.elapsed ≤ f.period then (s.dev.scan.elapsed : Int)
      else (s.dev.scan.elapsed : Int) - (f.period : Int)
    let st := s.dev.scan.tracker
    ∃ t, Sys2Proof.Machine.exec (.syncArrival edge) s = .next t ∧ t.pending = s.pending
      ∧ t.dev.scan =
        { s.dev.scan with tracker := t.dev.scan.tracker, slip := t.dev.scan.slip, lossElapsed := 0 }
      ∧ t.dev.chans = s.dev.chans ∧ t.dev.clock = s.dev.clock
      ∧ (|e| ≤ 20 → t.dev.scan.tracker = .centre)
      ∧ (20 < |e| → |e| ≤ 60 → 0 < e → t.dev.scan.tracker = .lead)
      ∧ (20 < |e| → |e| ≤ 60 → e < 0 → t.dev.scan.tracker = .lag)
      ∧ (60 < |e| → 0 < e → st = .lead → t.dev.scan.tracker = .centre ∧ t.dev.scan.slip = some .lead)
      ∧ (60 < |e| → e < 0 → st = .lag → t.dev.scan.tracker = .centre ∧ t.dev.scan.slip = some .lag)
      ∧ (60 < |e| → 0 < e → st ≠ .lead → t.dev.scan.tracker = .lead)
      ∧ (60 < |e| → e < 0 → st ≠ .lag → t.dev.scan.tracker = .lag)
      ∧ (60 < |e| ∧ ((0 < e ∧ st = .lead) ∨ (e < 0 ∧ st = .lag)) →
        t.dev.counters.slips = s.dev.counters.slips + 1)
      ∧ (¬(60 < |e| ∧ ((0 < e ∧ st = .lead) ∨ (e < 0 ∧ st = .lag))) →
        t.dev.counters.slips = s.dev.counters.slips ∧ t.dev.scan.slip = s.dev.scan.slip)

/-- SYNC_ARRIVAL in FREE cuts the frame: it counts, the next starts at the arrival and is not slipped, the tracker enters
CENTRE, the slips counter rises and the loss timer starts. The other edge is no arrival, and none is of account while the
engine is stopped. LOSS_TIMER_EXPIRY after 100 ms in step, with the engine running, brings the tracker back to FREE and
clears the pending slip, counts no slip and changes nothing else; otherwise nothing happens (log entry 11). That it does so
within a frame boundary too, which waits for map reads, is the model's (log entry 29). An arrival that comes within such a
boundary is taken after it: it is kept, behind those kept before it, with its time since the boundary, and nothing else changes
(log entry 18, DEDUCED from R4's boundary of one event). -/
def Obligations.SyncRealignsAndLossFrees : Prop :=
  ∀ (s : State) (edge : Edge),
    (s.dev.scan.engine ≠ .stopped → s.dev.scan.tracker ≠ .free → 100000 ≤ s.dev.scan.lossElapsed →
      Sys2Proof.Machine.exec .lossTimerExpiry s = .next
        { s with dev := { s.dev with scan := { s.dev.scan with tracker := .free, slip := none, lossElapsed := 0 } } })
    ∧ (s.dev.scan.engine = .stopped ∨ s.dev.scan.tracker = .free ∨ s.dev.scan.lossElapsed < 100000 →
      Sys2Proof.Machine.exec .lossTimerExpiry s = .next s)
    ∧ (¬(edge = .falling ↔ s.dev.board.falling = true) → Sys2Proof.Machine.exec (.syncArrival edge) s = .next s)
    ∧ (s.dev.scan.engine = .stopped → Sys2Proof.Machine.exec (.syncArrival edge) s = .next s)
    ∧ (∀ b, (edge = .falling ↔ s.dev.board.falling = true) → s.dev.scan.engine = .boundary b →
      Sys2Proof.Machine.exec (.syncArrival edge) s = .next
        { s with dev := { s.dev with scan := { s.dev.scan with
            arrivals := s.dev.scan.arrivals ++ [s.dev.scan.elapsed] } } })
    ∧ ∀ f, (edge = .falling ↔ s.dev.board.falling = true) → s.dev.scan.engine = .running f →
      s.dev.scan.tracker = .free → s.dev.scan.slip = none → s.dev.scan.arrivals = [] → f.Unheard → s.dev.Calm →
      s.dev.NoSetup → s.dev.regs.run = true →
      ∃ t g, Sys2Proof.Machine.exec (.syncArrival edge) s = .next t ∧ t.pending = s.pending
        ∧ t.dev = { s.dev with
            chans := t.dev.chans
            counters := { s.dev.counters with
              framesRun := s.dev.counters.framesRun + 1, slips := s.dev.counters.slips + 1 }
            scan := { s.dev.scan with engine := .running g, elapsed := 0, tracker := .centre, lossElapsed := 0 } }
        ∧ g.timeTag = s.dev.clock ∧ g.slipped = false ∧ g.period = s.dev.scan.rate.period

/-- STROKE_CLOCK_TICK: the clock counts the microseconds modulo 2^32 at all times, and so do the scrub and sweep timers; the
frame timer counts while the engine runs, the loss timer while it runs in step, a capture's idle timer while it has one and
the part is not HALTED, and the read timer while a read is in flight. Nothing else changes. That one command
carries any number of microseconds and ages every timer is the model's (log entry 11). -/
def Obligations.TickAgesTimers : Prop :=
  ∀ (s : State) (us : Nat), ∃ t, Sys2Proof.Machine.exec (.strokeClockTick us) s = .next t
    ∧ t = { s with dev := { s.dev with
        clock := t.dev.clock
        scan := { s.dev.scan with elapsed := t.dev.scan.elapsed, lossElapsed := t.dev.scan.lossElapsed }
        map := { s.dev.map with scrubElapsed := s.dev.map.scrubElapsed + us }
        intake := { s.dev.intake with elapsed := s.dev.intake.elapsed + us }
        delivery := { s.dev.delivery with captures := t.dev.delivery.captures }
        link := { s.dev.link with inFlight := t.dev.link.inFlight } } }
    ∧ t.dev.clock.toNat = (s.dev.clock.toNat + us) % 2 ^ 32
    ∧ (s.dev.scan.engine ≠ .stopped → t.dev.scan.elapsed = s.dev.scan.elapsed + us)
    ∧ (s.dev.scan.engine = .stopped → t.dev.scan = s.dev.scan)
    ∧ (s.dev.scan.engine ≠ .stopped → s.dev.scan.tracker ≠ .free →
      t.dev.scan.lossElapsed = s.dev.scan.lossElapsed + us)
    ∧ (s.dev.scan.tracker = .free → t.dev.scan.lossElapsed = s.dev.scan.lossElapsed)
    ∧ (s.dev.link.halted = true → t.dev.delivery = s.dev.delivery)
    ∧ (s.dev.link.halted = false → t.dev.delivery.captures = s.dev.delivery.captures.map fun c =>
      if c.timeout = 0 then c else { c with elapsed := c.elapsed + us })
    ∧ (s.dev.link.inFlight = none → t.dev.link.inFlight = none)
    ∧ ∀ r, s.dev.link.inFlight = some r → t.dev.link.inFlight = some { r with elapsed := r.elapsed + us }

/-! ### The Correction Map (R61 to R80) -/

/-- SCRUB_TIMER_EXPIRY after 1 ms: with the map READY and no scrub request waiting, a request for the node at the cursor is
placed, and granted at once when the port is free and no other request waits. While the map is ABSENT, or a request still
waits, none is placed. Before 1 ms nothing happens (log entry 11). A late expiry takes 1 ms off the timer (log entry 26). -/
def Obligations.ScrubTimerPlacesRequest : Prop :=
  ∀ s : State,
    let later : CorrectionMap := { s.dev.map with scrubElapsed := s.dev.map.scrubElapsed - 1000 }
    let g : Grant :=
      { who := .scrubber, node := s.dev.map.cursor, word := readNode s.dev.map.nodes s.dev.map.cursor }
    (s.dev.map.scrubElapsed < 1000 → Sys2Proof.Machine.exec .scrubTimerExpiry s = .next s)
    ∧ (1000 ≤ s.dev.map.scrubElapsed → s.dev.map.state = .absent ∨ s.dev.map.scrubWaiting = true →
      Sys2Proof.Machine.exec .scrubTimerExpiry s = .next { s with dev := { s.dev with map := later } })
    ∧ (1000 ≤ s.dev.map.scrubElapsed → s.dev.map.state = .ready → s.dev.map.scrubWaiting = false →
      s.dev.map.grant ≠ none →
      Sys2Proof.Machine.exec .scrubTimerExpiry s = .next
        { s with dev := { s.dev with map := { later with scrubWaiting := true } } })
    ∧ (1000 ≤ s.dev.map.scrubElapsed → s.dev.map.state = .ready → s.dev.map.scrubWaiting = false →
      s.dev.map.grant = none → s.dev.map.solverWaiting = false → s.dev.map.execWaiting = false →
      Sys2Proof.Machine.exec .scrubTimerExpiry s = .next
        { s with dev := { s.dev with map := { later with grant := some g, scrubPass := 0 } } })

/-- SCRUB, with no other request waiting: a CLEAN word is left; a word with one flipped bit is written back as it was
written, with a fresh code, and counted CORRECTED; a word with two is left and counted UNCORRECTABLE. An empty Map Error Log
takes the outcome with source SCRUB and MAPERR is set; a full one does not. The cursor advances, returning to 0 at the node
count. The word acted on is the one that stood at the grant (log entry 14). -/
def Obligations.ScrubActsOnOutcome : Prop :=
  ∀ (s : State) (g : Grant), s.dev.map.grant = some g → g.who = .scrubber →
    s.dev.map.solverWaiting = false → s.dev.map.execWaiting = false → s.dev.map.scrubWaiting = false →
    let count := (s.dev.board.nx / 4 + 1) * (s.dev.board.ny / 4 + 1)
    let cursor := if count ≤ s.dev.map.cursor + 1 then 0 else s.dev.map.cursor + 1
    let after : CorrectionMap := { s.dev.map with grant := none, cursor := cursor }
    (g.word.flips = 0 →
      Sys2Proof.Machine.exec .scrub s = .next { s with dev := { s.dev with map := after } })
    ∧ (∀ b : Fin 39, g.word.flips = BitVec.twoPow 39 b.val →
      ∃ t, Sys2Proof.Machine.exec .scrub s = .next t ∧ t.pending = s.pending
        ∧ t.dev.map = { after with
            nodes := storeNode s.dev.map.nodes g.node { cx := g.word.cx, cy := g.word.cy, flips := 0 }
            log := t.dev.map.log }
        ∧ t.dev.counters = { s.dev.counters with mapCorrected := s.dev.counters.mapCorrected + 1 }
        ∧ (∀ e, s.dev.map.log = some e → t.dev.map.log = some e ∧ t.dev.regs = s.dev.regs)
        ∧ (s.dev.map.log = none →
          t.dev.map.log = some { node := g.node, outcome := .corrected, bit := b.val, source := .scrubber }
          ∧ t.dev.regs.event = s.dev.regs.event ||| 4))
    ∧ (∀ b c : Fin 39, b ≠ c → g.word.flips = BitVec.twoPow 39 b.val ||| BitVec.twoPow 39 c.val →
      ∃ t, Sys2Proof.Machine.exec .scrub s = .next t ∧ t.pending = s.pending
        ∧ t.dev.map = { after with log := t.dev.map.log }
        ∧ t.dev.counters = { s.dev.counters with mapUncorrectable := s.dev.counters.mapUncorrectable + 1 }
        ∧ (∀ e, s.dev.map.log = some e → t.dev.map.log = some e ∧ t.dev.regs = s.dev.regs)
        ∧ (s.dev.map.log = none →
          t.dev.map.log = some { node := g.node, outcome := .uncorrectable, bit := 127, source := .scrubber }
          ∧ t.dev.regs.event = s.dev.regs.event ||| 4))

/-- MAP_LOAD_NODE_WRITE, in a calm part with no other request waiting: the entry counts as written; the outcome of the
node's read-back is counted and offered to the Map Error Log with source EXECUTOR, as Device.Notes says, and is a verify
failure of the post unless it is CLEAN; with another entry left that one is limited, counted as clamped if the limit changed
it, and its node is written whole at the next grant; with none left and more of the run to come the next piece is read; at
the end of the run the post completes OK with its counts, and FINAL makes the map READY. That the write is made at the grant
and read back at this command is the model's (log entry 14), and that each entry is limited just before its own grant (log
entry 35). -/
def Obligations.MapLoadNodeWriteGoesOn : Prop :=
  ∀ (s : State) (g : Grant) (slot : Fin 32) (w : MapLoadWork) (e : Int × Int) (rest : List (Int × Int)),
    s.dev.map.grant = some g → g.who = .executor →
    s.dev.exec = some { slot := slot, work := .mapLoad w } → w.entries = e :: rest →
    s.dev.Calm → s.dev.map.solverWaiting = false → s.dev.map.execWaiting = false → s.dev.map.scrubWaiting = false →
    ∀ (o : ReadOutcome) (d : Device), s.dev.Notes g.node (readNode s.dev.map.nodes g.node) .executor o d →
    let w' : MapLoadWork := { w with
      written := w.written + 1
      verify := w.verify + (if o = .clean then 0 else 1)
      entries := rest }
    let limit (v : Int) : Int := max (-1024) (min v 1023)
    let m := s.dev.markOf slot
    (∀ f more, rest = f :: more →
      let node := w.start + w.written + 1
      let word : NodeWord :=
        { cx := BitVec.ofInt 16 (limit f.1), cy := BitVec.ofInt 16 (limit f.2), flips := 0 }
      let nodes := storeNode s.dev.map.nodes node word
      let limited : MapLoadWork := { w' with
        clamped := w.clamped + (if -1024 ≤ f.1 ∧ f.1 ≤ 1023 ∧ -1024 ≤ f.2 ∧ f.2 ≤ 1023 then 0 else 1)
        entries := (limit f.1, limit f.2) :: more }
      let g' : Grant := { who := .executor, node := node, word := readNode nodes node }
      Sys2Proof.Machine.exec .mapLoadNodeWrite s = .next { s with dev := { d with
        exec := some { slot := slot, work := .mapLoad limited }
        map := { d.map with nodes := nodes, grant := some g', execPass := 0 } } })
    ∧ (rest = [] → w.written + 1 < w.count → s.dev.link.inFlight = none →
      let rd : ReadReq :=
        { site := .executor, slot := some slot, addr := w.source + BitVec.ofNat 64 (8 * (w.written + 1)),
          len := 8 * min 16 (w.count - (w.written + 1)) }
      Sys2Proof.Machine.exec .mapLoadNodeWrite s = .next { s with dev := { d with
        exec := some { slot := slot, work := .mapLoad w' }
        map := { d.map with grant := none }
        link := { d.link with inFlight := some { req := rd, elapsed := 0 } } } })
    ∧ (rest = [] → w.count ≤ w.written + 1 →
      let counts := le 2 w'.written ++ le 2 w'.clamped ++ le 2 w'.verify
      let ws := [resultWrite m .ok .none counts, doneWrite m]
      let freed : Intake := { s.dev.intake with inFlight := s.dev.intake.inFlight.filter fun x => x.slot != slot }
      let done : Device := { d with
        exec := none
        intake := freed
        map := { d.map with grant := none, state := if w.final then .ready else s.dev.map.state } }
      Sys2Proof.Machine.exec .mapLoadNodeWrite s = .next { s with dev := done.wrote ws })

/-- MAP_READ_NODE_READ, in a calm part with no other request waiting: the node's entry joins the group with its outcome, CLEAN
as it stands, CORRECTED with the flipped bit restored, UNCORRECTABLE as stored with bit 127; the outcome is counted and not
offered to the log; while the group is not complete the next node is granted; a complete group enters the buffer as one write,
and then the next group's first node is granted, or after the last group the post completes with its counts. The word read is
the one that stood at the grant (log entry 14). -/
def Obligations.MapReadNodeReadGathers : Prop :=
  ∀ (s : State) (g : Grant) (slot : Fin 32) (w : MapReadWork) (n : NodeOutput) (counted : Counters),
    s.dev.map.grant = some g → g.who = .executor →
    s.dev.exec = some { slot := slot, work := .mapRead w } → s.dev.Calm →
    s.dev.map.solverWaiting = false → s.dev.map.execWaiting = false → s.dev.map.scrubWaiting = false →
    let stored : BitVec 32 := (g.word.cy ++ g.word.cx) ^^^ g.word.flips.extractLsb' 0 32
    let written : NodeOutput :=
      { cx := limitPart g.word.cx.toInt, cy := limitPart g.word.cy.toInt, outcome := .clean, bit := 0 }
    (g.word.flips = 0 ∧ n = written ∧ counted = s.dev.counters)
      ∨ (∃ b : Fin 39, g.word.flips = BitVec.twoPow 39 b.val
        ∧ n = { written with outcome := .corrected, bit := b.val }
        ∧ counted = { s.dev.counters with mapCorrected := s.dev.counters.mapCorrected + 1 })
      ∨ (∃ b c : Fin 39, b ≠ c ∧ g.word.flips = BitVec.twoPow 39 b.val ||| BitVec.twoPow 39 c.val
        ∧ n = { cx := limitPart (stored.extractLsb' 0 16).toInt, cy := limitPart (stored.extractLsb' 16 16).toInt,
                outcome := .uncorrectable, bit := 127 }
        ∧ counted = { s.dev.counters with mapUncorrectable := s.dev.counters.mapUncorrectable + 1 }) →
    let group := w.group ++ [n]
    let ok (o : ReadOutcome) : Nat := (group.filter fun x => x.outcome == o).length
    let block : HostWrite :=
      { role := .bulk, addr := w.dest + BitVec.ofNat 64 (8 * w.done), data := group.flatMap NodeOutput.image }
    (group.length < min 16 (w.count - w.done) →
      let node := w.start + w.done + group.length
      let g' : Grant := { who := .executor, node := node, word := readNode s.dev.map.nodes node }
      Sys2Proof.Machine.exec .mapReadNodeRead s = .next { s with dev := { s.dev with
        exec := some { slot := slot, work := .mapRead { w with group := group } }
        counters := counted
        map := { s.dev.map with grant := some g', execPass := 0 } } })
    ∧ (group.length = min 16 (w.count - w.done) → w.done + group.length < w.count →
      let node := w.start + w.done + group.length
      let g' : Grant := { who := .executor, node := node, word := readNode s.dev.map.nodes node }
      let w' : MapReadWork := { w with
        done := w.done + group.length, corrected := w.corrected + ok .corrected
        uncorrectable := w.uncorrectable + ok .uncorrectable, group := [] }
      let goesOn : Device := { s.dev with
        exec := some { slot := slot, work := .mapRead w' }
        counters := counted
        map := { s.dev.map with grant := some g', execPass := 0 } }
      Sys2Proof.Machine.exec .mapReadNodeRead s = .next { s with dev := goesOn.wrote [block] })
    ∧ (group.length = min 16 (w.count - w.done) → w.done + group.length = w.count →
      let m := s.dev.markOf slot
      let counts := le 2 w.count ++ le 2 (w.corrected + ok .corrected) ++ le 2 (w.uncorrectable + ok .uncorrectable)
      let done : Device := { s.dev with
        exec := none
        counters := counted
        intake := { s.dev.intake with inFlight := s.dev.intake.inFlight.filter fun x => x.slot != slot }
        map := { s.dev.map with grant := none } }
      let ws := [block, resultWrite m .ok .none counts, doneWrite m]
      Sys2Proof.Machine.exec .mapReadNodeRead s = .next { s with dev := done.wrote ws })

/-- MAP_BIT_FLIP: later reads of the node find the one bit flipped, every other node reads as before, and nothing else
changes. The node memory is in its canonical form. A word is held as what was written and the bits flipped since (log entry
6). -/
def Obligations.MapBitFlipFlipsOneBit : Prop :=
  ∀ (s : State) (node : Fin 1024) (b : Fin 39), NodeMem.wf s.dev.map.nodes = true →
    ∃ t, Sys2Proof.Machine.exec (.mapBitFlip node b) s = .next t
      ∧ t = { s with dev := { s.dev with map := { s.dev.map with nodes := t.dev.map.nodes } } }
      ∧ (∀ i, i ≠ node.val → readNode t.dev.map.nodes i = readNode s.dev.map.nodes i)
      ∧ (readNode t.dev.map.nodes node.val).cx = (readNode s.dev.map.nodes node.val).cx
      ∧ (readNode t.dev.map.nodes node.val).cy = (readNode s.dev.map.nodes node.val).cy
      ∧ ∀ i, i < 39 → (readNode t.dev.map.nodes node.val).flips.getLsbD i
          = ((readNode s.dev.map.nodes node.val).flips.getLsbD i != decide (i = b.val))

/-! ### Sweeps and the reads of the post table (R129 to R138) -/

/-- SWEEP_TIMER_EXPIRY after 1 ms: with INTAKE 1, outside HALTED and with no sweep in progress a sweep starts under TABLE
BASE and, when no strip write stands in the buffer and the link takes a read, its strip read is issued, and when the link
does not take it a fault at site SWEEP ends the sweep, its class either where both conditions fail (log entry 2), and pauses
the idle timers (log entry 38); otherwise nothing starts. Before 1 ms nothing happens (log entry 11). A late expiry takes 1
ms off the timer (log entry 26). -/
def Obligations.SweepTimerStartsSweep : Prop :=
  ∀ s : State,
    let later : Intake := { s.dev.intake with elapsed := s.dev.intake.elapsed - 1000 }
    let sw : Sweep := { base := s.dev.regs.tableBase, phase := .strip, snapshot := [], held := [], ending := false }
    let rd : ReadReq := { site := .sweep, slot := none, addr := s.dev.regs.tableBase, len := 128 }
    (s.dev.intake.elapsed < 1000 → Sys2Proof.Machine.exec .sweepTimerExpiry s = .next s)
    ∧ (1000 ≤ s.dev.intake.elapsed →
      s.dev.regs.intake = false ∨ s.dev.link.halted = true ∨ s.dev.intake.sweep ≠ none →
      Sys2Proof.Machine.exec .sweepTimerExpiry s = .next { s with dev := { s.dev with intake := later } })
    ∧ (1000 ≤ s.dev.intake.elapsed → s.dev.regs.intake = true → s.dev.link.halted = false →
      s.dev.intake.sweep = none → (∀ w ∈ s.dev.link.buffer, w.isStrip = false) → s.dev.link.waiting = [] →
      s.dev.link.inFlight = none → s.dev.link.inputs.up = true → s.dev.link.inputs.mastering = true →
      Sys2Proof.Machine.exec .sweepTimerExpiry s = .next { s with dev := { s.dev with
        intake := { later with sweep := some sw }
        link := { s.dev.link with inFlight := some { req := rd, elapsed := 0 } } } })
    ∧ (1000 ≤ s.dev.intake.elapsed → s.dev.regs.intake = true → s.dev.link.halted = false →
      s.dev.intake.sweep = none → (∀ w ∈ s.dev.link.buffer, w.isStrip = false) → s.dev.link.waiting = [] →
      s.dev.link.inFlight = none → s.dev.link.inputs.up = false ∨ s.dev.link.inputs.mastering = false →
        ∃ t, Sys2Proof.Machine.exec .sweepTimerExpiry s = .next t ∧ t.pending = s.pending ∧ t.dev.link.halted = true
          ∧ t.dev.regs.event.getLsbD 1 = true ∧ t.dev.intake.sweep = none
          ∧ t.dev.intake.promptPending = false ∧ t.dev.link.inFlight = none ∧ t.dev.link.waiting = []
          ∧ (∀ e, s.dev.link.faultRecord = some e → t.dev.link.faultRecord = some e)
          ∧ (s.dev.link.faultRecord = none → ∃ cls, t.dev.link.faultRecord = some
            { cls := cls, site := .sweep, slot := none, clock := s.dev.clock }
            ∧ (cls = .masterOff ∧ s.dev.link.inputs.mastering = false
              ∨ cls = .linkDown ∧ s.dev.link.inputs.up = false))
          ∧ t.dev.exec = none ∧ t.dev.trace = none ∧ t.dev.delivery = s.dev.delivery.paused ∧ t.dev.scan = s.dev.scan
          ∧ t.dev.chans = s.dev.chans ∧ t.dev.profiles = s.dev.profiles ∧ t.dev.clock = s.dev.clock)

/-- STRIP_READ_COMPLETE, in a calm part: a slot that is not POSTED or is in flight, a CAPTURE with the Capture Queue full
and an Executor kind with a post in progress are passed over, and when every slot is, the sweep ends. When the first slot in
rotation that is not passed over is of a known kind whose unit has room, that slot's body is read and the snapshot and the
slots in flight are fixed; of an unknown kind, in SINGLE mode, it is rejected UNKNOWN_KIND with NOTIFY taken as set and the
sweep ends; and so is a TRACE, with BUSY, while the Trace Unit is not IDLE. The slots still to visit are those after it in
rotation. -/
def Obligations.StripReadWalksSlots : Prop :=
  ∀ (s : State) (bytes : List Byte) (sw : Sweep) (rd : ReadInFlight),
    s.dev.Calm → s.dev.link.inFlight = some rd → rd.req.site = .sweep → rd.req.len = 128 → bytes.length = 128 →
    s.dev.intake.sweep = some sw → sw.phase = .strip → sw.ending = false → s.dev.intake.promptPending = false →
    let posted (k : Fin 32) : Prop := bytes.getD (4 * k.val) 0 = 1
    let kind (k : Fin 32) : Byte := bytes.getD (4 * k.val + 1) 0
    let passed (k : Fin 32) : Prop := ¬posted k ∨ s.dev.isInFlight k = true
      ∨ (kind k = 1 ∧ 16 ≤ s.dev.delivery.captures.length)
      ∨ (2 ≤ (kind k).toNat ∧ (kind k).toNat ≤ 9 ∧ kind k ≠ 6 ∧ s.dev.exec ≠ none)
    let ended : Device := { s.dev with
      intake := { s.dev.intake with sweep := none }
      link := { s.dev.link with inFlight := none } }
    ((∀ k, passed k) →
      Sys2Proof.Machine.exec (.stripReadComplete bytes) s = .next { s with dev := ended })
    ∧ ∀ (i : Nat) (k : Fin 32), i < 32 → k = Fin.ofNat 32 (s.dev.intake.rotation.val + 1 + i) → posted k →
      (∀ j < i, passed (Fin.ofNat 32 (s.dev.intake.rotation.val + 1 + j))) → s.dev.isInFlight k = false →
      (1 ≤ (kind k).toNat → (kind k).toNat ≤ 9 → (kind k = 1 → s.dev.delivery.captures.length < 16) →
        (kind k = 6 → s.dev.trace = none) → (kind k ≠ 1 → kind k ≠ 6 → s.dev.exec = none) →
        let body : ReadReq :=
          { site := .body, slot := some k, addr := sw.base + BitVec.ofNat 64 (128 + 64 * k.val), len := 64 }
        let rest := (List.range (31 - i)).map fun j => Fin.ofNat 32 (s.dev.intake.rotation.val + 1 + (i + 1 + j))
        ∃ t sw', Sys2Proof.Machine.exec (.stripReadComplete bytes) s = .next t
          ∧ t = { s with dev := { s.dev with
              intake := { s.dev.intake with sweep := some sw' }
              link := { s.dev.link with inFlight := some { req := body, elapsed := 0 } } } }
          ∧ sw'.base = sw.base ∧ sw'.phase = .body k rest ∧ sw'.ending = false
          ∧ sw'.held = s.dev.intake.inFlight.map (fun m => m.slot)
          ∧ sw'.snapshot.length = 32
          ∧ (∀ n : Fin 32, stripKind (sw'.snapshot.getD n.val 0) = kind n)
          ∧ ∀ n : Fin 32, stripState (sw'.snapshot.getD n.val 0) = (bytes.getD (4 * n.val) 0).toNat)
      ∧ (¬(1 ≤ (kind k).toNat ∧ (kind k).toNat ≤ 9) → s.dev.regs.batch = false →
        let m : SlotMark := { slot := k, base := sw.base, kind := kind k, notify := true }
        Sys2Proof.Machine.exec (.stripReadComplete bytes) s = .next { s with dev := ended.rejectedSlot m .unknownKind })
      ∧ (kind k = 6 → s.dev.trace ≠ none → s.dev.regs.batch = false →
        let m : SlotMark := { slot := k, base := sw.base, kind := 6, notify := true }
        Sys2Proof.Machine.exec (.stripReadComplete bytes) s = .next { s with dev := ended.rejectedSlot m .busy })

/-- BODY_READ_COMPLETE: a body whose kind is the strip word's is the post of that kind with its parameters at their offsets,
and acts as that post's own row does, the row being that completion (the model's, log entry 10). In a calm part, for the
last slot of a walk or in SINGLE mode, a body of another kind is rejected UNKNOWN_KIND and the sweep ends; a CLOCK_SET body
with an idle Executor is taken and carried out, a PROFILE operation or a CANCEL target that is none of those named is taken
and rejected RANGE, and the sweep ends. In BATCH mode the walk goes on to the next slot, here to one whose body is read.
Completion data of another length is no completion of the read (log entry 5). -/
def Obligations.BodyReadSettlesSlot : Prop :=
  ∀ (s : State) (bytes : List Byte) (sw : Sweep) (rd : ReadInFlight) (slot : Fin 32) (rest : List (Fin 32)),
    s.dev.link.inFlight = some rd → rd.req.site = .body → rd.req.len = 64 →
    s.dev.intake.sweep = some sw → sw.phase = .body slot rest →
    let kind := stripKind (sw.snapshot.getD slot.val 0)
    let notify := (bytes.getD 1 0).getLsbD 0
    let n (offset size : Nat) : Nat := leValue ((bytes.drop offset).take size)
    let byte (offset : Nat) : Byte := bytes.getD offset 0
    let acts (i : Instr) : Prop := Sys2Proof.Machine.exec (.bodyReadComplete bytes) s = Sys2Proof.Machine.exec i s
    let m : SlotMark := { slot := slot, base := sw.base, kind := kind, notify := notify }
    (bytes.length ≠ 64 → Sys2Proof.Machine.exec (.bodyReadComplete bytes) s = .next s)
    ∧ (bytes.length = 64 → byte 0 = kind →
      let map : MapParams :=
        { start := BitVec.ofNat 16 (n 4 2), count := BitVec.ofNat 16 (n 6 2), flags := byte 8,
          addr := BitVec.ofNat 64 (n 12 8) }
      let key : Half := BitVec.ofNat 16 (n 8 2)
      let source : Addr := BitVec.ofNat 64 (n 12 8)
      (kind = 1 → acts (.capture slot notify
        { buffer := BitVec.ofNat 64 (n 4 8), capacity := BitVec.ofNat 32 (n 12 4), mask := byte 16, endFlags := byte 17,
          timeout := BitVec.ofNat 32 (n 20 4) }))
      ∧ (kind = 2 → byte 4 = 1 → acts (.profileLoad slot notify key source))
      ∧ (kind = 2 → byte 4 = 2 → acts (.profileRemove slot notify key))
      ∧ (kind = 2 → byte 4 = 3 → acts (.profileClear slot notify))
      ∧ (kind = 2 → byte 4 = 4 → acts (.profileDefault slot notify key source))
      ∧ (kind = 3 → acts (.mapLoad slot notify map)) ∧ (kind = 4 → acts (.mapRead slot notify map))
      ∧ (kind = 5 → acts (.scanSetup slot notify { rate := byte 4, enables := byte 5, divisor := byte 6 }))
      ∧ (kind = 6 → acts (.trace slot notify
        { channel := byte 4, trigger := byte 5, pre := byte 6, post := BitVec.ofNat 16 (n 8 2),
          level := BitVec.ofNat 16 (n 10 2), capacity := BitVec.ofNat 32 (n 12 4),
          dest := BitVec.ofNat 64 (n 16 8) }))
      ∧ (kind = 7 → acts (.counters slot notify { dest := BitVec.ofNat 64 (n 4 8), flags := byte 12 }))
      ∧ (kind = 8 → byte 4 = 1 → acts (.cancelMask slot notify (byte 5)))
      ∧ (kind = 8 → byte 4 = 2 → acts (.cancelTrace slot notify))
      ∧ (kind = 8 → byte 4 = 3 → acts (.cancelSlot slot notify (byte 6)))
      ∧ (kind = 9 → acts (.clockSet slot notify (BitVec.ofNat 32 (n 4 4)))))
    ∧ (bytes.length = 64 → s.dev.Finds slot kind →
      (s.dev.regs.batch = false ∨ rest = [] → byte 0 ≠ kind →
        Sys2Proof.Machine.exec (.bodyReadComplete bytes) s = .next
          { s with dev := s.dev.swept.rejectedSlot m .unknownKind })
      ∧ (s.dev.regs.batch = false ∨ rest = [] → byte 0 = kind → s.dev.exec = none →
        let rejected (fields : List Byte) : Device := s.dev.swept.completedSlot m .rejected .range fields
        let set : Device := { s.dev.swept with clock := BitVec.ofNat 32 (n 4 4) }
        (kind = 9 → Sys2Proof.Machine.exec (.bodyReadComplete bytes) s = .next
          { s with dev := set.completedSlot m .ok .none (le 4 s.dev.clock.toNat ++ le 4 (n 4 4)) })
        ∧ (kind = 2 → byte 4 = 0 ∨ 4 < (byte 4).toNat → Sys2Proof.Machine.exec (.bodyReadComplete bytes) s = .next
          { s with dev := rejected ([0] ++ le 1 s.dev.profiles.entries.length ++ [0, 0] ++ le 2 (n 8 2) ++ [0]) })
        ∧ (kind = 8 → byte 4 = 0 ∨ 3 < (byte 4).toNat →
          Sys2Proof.Machine.exec (.bodyReadComplete bytes) s = .next { s with dev := rejected [] })))
    ∧ ∀ next more, bytes.length = 64 → s.dev.Calm → s.dev.isInFlight slot = false → s.dev.regs.batch = true →
      rest = next :: more → next ≠ slot → sw.ending = false → byte 0 = kind → kind = 9 → s.dev.exec = none →
      stripState (sw.snapshot.getD next.val 0) = 1 → stripKind (sw.snapshot.getD next.val 0) = 9 →
      next ∉ sw.held → s.dev.isInFlight next = false →
      let rd' : ReadReq :=
        { site := .body, slot := some next, addr := sw.base + BitVec.ofNat 64 (128 + 64 * next.val), len := 64 }
      let set : Device := { s.dev with
        clock := BitVec.ofNat 32 (n 4 4)
        intake := { s.dev.intake with sweep := some { sw with phase := .body next more } }
        link := { s.dev.link with inFlight := some { req := rd', elapsed := 0 } } }
      Sys2Proof.Machine.exec (.bodyReadComplete bytes) s = .next
        { s with dev := set.completedSlot m .ok .none (le 4 s.dev.clock.toNat ++ le 4 (n 4 4)) }

/-! ### Captures (R112 to R125) -/

/-- IDLE_TIMEOUT, in a calm part: a capture whose timer has run its timeout leaves the Capture Queue, its counter rises, and
its result, with reason TIMEOUT, and DONE are written. A capture with no timer, or whose timer has not run out, or any while
HALTED, stays as it is (log entry 11), and so does a slot with no capture (log entry 5). -/
def Obligations.IdleTimeoutCompletesCapture : Prop :=
  ∀ (s : State) (slot : Fin 32),
    (s.dev.delivery.captures.find? (fun c => c.slot == slot) = none →
      Sys2Proof.Machine.exec (.idleTimeout slot) s = .next s)
    ∧ ∀ c, s.dev.delivery.captures.find? (fun c => c.slot == slot) = some c →
      (c.timeout = 0 ∨ c.elapsed < 1000 * c.timeout ∨ s.dev.link.halted = true →
        Sys2Proof.Machine.exec (.idleTimeout slot) s = .next s)
      ∧ (c.timeout ≠ 0 → 1000 * c.timeout ≤ c.elapsed → s.dev.Calm →
        let m := s.dev.markOf slot
        let last : List Byte := match c.last with
          | some r => le 2 r.seq.toNat ++ le 4 r.timeTag.toNat
          | none => le 2 0 ++ le 4 0
        let ch : Byte := match c.last with
          | some r => if r.ch = .a then 0 else 1
          | none => 255
        let fields := [4, ch] ++ le 2 c.count ++ le 2 c.capacity ++ last
        let done : Device := { s.dev with
          delivery := { s.dev.delivery with captures := s.dev.delivery.captures.filter fun x => x.slot != slot }
          counters := { s.dev.counters with capTimeout := s.dev.counters.capTimeout + 1 }
          intake := { s.dev.intake with inFlight := s.dev.intake.inFlight.filter fun x => x.slot != slot } }
        Sys2Proof.Machine.exec (.idleTimeout slot) s = .next
          { s with dev := done.wrote [resultWrite m .ok .none fields, doneWrite m] })

/-- CAPTURE, found by a sweep: with room in the Capture Queue and its fields in range it opens a capture at the newest end,
the capacity limited to 4096 and the timeout to 32767 ms, and the slot is TAKEN; a record held for its channel is then
drained into it, and the capture goes on or completes at once, for PROX_OUT, LIFT or FULL; otherwise it is rejected RANGE or
ALIGN. A full queue skips it (tested at the walk before the body is read, so here it comes about in no run). The sweep then
ends. A post as a command of its own is the model's (log entry 10). -/
def Obligations.CaptureOpensOrRejects : Prop :=
  ∀ (s : State) (slot : Fin 32) (notify : Bool) (p : CaptureParams),
    let m := s.dev.foundMark slot 1 notify
    let maskOk := p.mask = 1 ∨ p.mask = 2 ∨ p.mask = 3
    let c : Capture :=
      { slot := slot, buffer := p.buffer, capacity := min p.capacity.toNat 4096,
        mask := { a := p.mask.getLsbD 0, b := p.mask.getLsbD 1 }, endOnLift := p.endFlags.getLsbD 0,
        endOnProxOut := p.endFlags.getLsbD 1, timeout := min p.timeout.toNat 32767, count := 0, last := none,
        elapsed := 0 }
    let opened : Device := { s.dev.swept with
      delivery := { s.dev.delivery with captures := s.dev.delivery.captures ++ [c] } }
    (s.dev.Finds slot 1 → 16 ≤ s.dev.delivery.captures.length →
      (∀ sw, s.dev.intake.sweep = some sw → sw.phase = .body slot []) →
      Sys2Proof.Machine.exec (.capture slot notify p) s = .next { s with dev := s.dev.swept })
    ∧ (s.dev.Finds slot 1 → s.dev.delivery.captures.length < 16 → p.capacity = 0 ∨ ¬maskOk →
      Sys2Proof.Machine.exec (.capture slot notify p) s = .next { s with dev := s.dev.swept.rejectedSlot m .range })
    ∧ (s.dev.Finds slot 1 → s.dev.delivery.captures.length < 16 → p.capacity ≠ 0 → maskOk → p.buffer.toNat % 32 ≠ 0 →
      Sys2Proof.Machine.exec (.capture slot notify p) s = .next { s with dev := s.dev.swept.rejectedSlot m .align })
    ∧ (s.dev.Finds slot 1 → s.dev.delivery.captures.length < 16 → p.capacity ≠ 0 → maskOk → p.buffer.toNat % 32 = 0 →
      Sys2Proof.Machine.exec (.capture slot notify p) s = .next { s with dev := opened.tookSlot m })
    ∧ ∀ r, s.dev.delivery = { holding := [r], captures := [] } →
      Device.Finds { s.dev with delivery := { holding := [], captures := [] } } slot 1 →
      p.capacity ≠ 0 → maskOk → p.buffer.toNat % 32 = 0 → c.mask.get r.ch = true →
      let record : HostWrite := { role := .record, addr := p.buffer, data := r.image }
      let c' : Capture := { c with count := 1, last := some { ch := r.ch, seq := r.seq, timeTag := r.timeTag } }
      let drained (k : Counters) (cs : List Capture) : Device := { s.dev.swept with
        delivery := { holding := [], captures := cs }
        counters := { k with delivered := s.dev.counters.delivered.set r.ch (s.dev.counters.delivered.get r.ch + 1) } }
      let completes (k : Counters) (e : Reason) : Prop :=
        let ws := [takenWrite m, record, resultWrite m .ok .none (c'.fields e), doneWrite m]
        Sys2Proof.Machine.exec (.capture slot notify p) s = .next
          { s with dev := ((drained k []).rotated slot).wrote ws }
      let proxOut := c.endOnProxOut = true ∧ r.event = .proxOut
      let lift := c.endOnLift = true ∧ r.flags.strokeEnd = true
      let full := c.capacity = 1
      let k := s.dev.counters
      (¬proxOut → ¬lift → ¬full → Sys2Proof.Machine.exec (.capture slot notify p) s = .next
        { s with dev := (((drained k [c']).rotated slot).marked m).wrote [takenWrite m, record] })
      ∧ (proxOut → completes { k with capProxOut := k.capProxOut + 1 } .proxOut)
      ∧ (¬proxOut → lift → completes { k with capLift := k.capLift + 1 } .lift)
      ∧ (¬proxOut → ¬lift → full → completes { k with capFull := k.capFull + 1 } .full)

/-! ### The trace (R145, R146) -/

/-- TRACE, found by a sweep: an IDLE unit with every field in range arms with the post count limited to the capacity less the
pre count; a channel, trigger, level, pre count, post count or capacity out of range is rejected RANGE, and failing that a
destination that is not 32-aligned ALIGN; a unit that holds a trace rejects it BUSY with NOTIFY taken as set. A post as a
command of its own is the model's (log entry 10). A frame the unit receives of its channel: ARMED, one that fires the trigger
moves the newest pre frames and itself to staging, and another joins the pre ring of 16; CAPTURING, one still to take joins
staging, or overruns the trace when 16 are staged. The channel going IDLE ends the trace CHANNEL_OFF, once what is staged has
been written. -/
def Obligations.TraceArmsOrRejects : Prop :=
  (∀ (s : State) (slot : Fin 32) (notify : Bool) (p : TraceParams), s.dev.Finds slot 6 →
    let m := s.dev.foundMark slot 6 notify
    let inRange := p.channel.toNat ≤ 1 ∧ p.trigger.toNat ≤ 4
      ∧ (p.trigger = 4 → 1 ≤ p.level.toNat ∧ p.level.toNat ≤ 16383) ∧ p.pre.toNat ≤ 15
      ∧ 1 ≤ p.post.toNat ∧ p.post.toNat ≤ 240 ∧ p.pre.toNat + 1 ≤ p.capacity.toNat
    (s.dev.trace ≠ none →
      Sys2Proof.Machine.exec (.trace slot notify p) s = .next
        { s with dev := s.dev.swept.rejectedSlot { m with notify := true } .busy })
    ∧ (s.dev.trace = none → ¬inRange →
      Sys2Proof.Machine.exec (.trace slot notify p) s = .next { s with dev := s.dev.swept.rejectedSlot m .range })
    ∧ ∀ tr, s.dev.trace = none → inRange →
      [Trigger.immediate, .proxIn, .touch, .lift, .pressureAbove][p.trigger.toNat]? = some tr →
      (p.dest.toNat % 32 ≠ 0 →
        Sys2Proof.Machine.exec (.trace slot notify p) s = .next { s with dev := s.dev.swept.rejectedSlot m .align })
      ∧ (p.dest.toNat % 32 = 0 →
        let job : TraceJob :=
          { slot := slot, ch := if p.channel = 0 then .a else .b, trigger := tr, level := p.level.toNat,
            pre := p.pre.toNat, post := min p.post.toNat (p.capacity.toNat - p.pre.toNat), dest := p.dest,
            capturing := false, ring := [], staging := [], toTake := 0, written := 0, preWritten := 0,
            trigTag := none, channelOff := false }
        let armed : Device := { s.dev.swept with trace := some job }
        Sys2Proof.Machine.exec (.trace slot notify p) s = .next { s with dev := armed.tookSlot m }))
  ∧ ∀ (d : Device) (j : TraceJob) (ch : Channel) (r : FrameResults) (ev : RecEvent) (st : TrackState) (pressure : Nat),
    d.trace = some j →
    let tf := traceFrame d.board j.ch r st
    let fires := j.trigger = .immediate ∨ (j.trigger = .proxIn ∧ ev = .proxIn)
      ∨ (j.trigger = .touch ∧ (ev = .touch ∨ (ev = .proxIn ∧ st = .contact))) ∨ (j.trigger = .lift ∧ ev = .lift)
      ∨ (j.trigger = .pressureAbove ∧ j.level ≤ pressure)
    let goesOn (j' : TraceJob) : Device := { d with trace := some j' }
    let ended (dt : Detail) : Device :=
      let m := d.markOf j.slot
      let fields := le 2 j.written ++ le 1 j.preWritten ++ le 1 (if j.trigTag = none then 0 else 1) ++ le 2 j.post
        ++ le 2 0 ++ le 4 (j.trigTag.getD 0).toNat
      { d with
        trace := none
        link := { d.link with slotQueue := d.link.slotQueue ++ [resultWrite m .ok dt fields, doneWrite m] } }
    let nine (n : Nat) (p q : PartResult) : Prop := (p.amps.length = 9 → q = p)
      ∧ (p.origin = 0 → p.amps.length = n → 16 ≤ n → q.origin = min (p.peakLoop - 4) (n - 9) ∧ q.amps.length = 9
        ∧ ∀ i < 9, q.amps.getD i 0 = p.amps.getD (q.origin + i) 0)
    let received := receiveTraceFrame j.ch r ev st pressure d
    let off := traceChannelOff j.ch d
    (ch ≠ j.ch → receiveTraceFrame ch r ev st pressure d = d ∧ traceChannelOff ch d = d)
    ∧ (j.capturing = false → ¬fires → ∃ ring, received = goesOn { j with ring := ring }
      ∧ ring <:+ j.ring ++ [tf] ∧ ring.length = min 16 (j.ring.length + 1))
    ∧ (j.capturing = false → fires → ∃ pres, pres <:+ j.ring ∧ pres.length = min j.pre j.ring.length
      ∧ received = goesOn { j with
          capturing := true, trigTag := some r.timeTag, ring := [], preWritten := pres.length, toTake := j.post - 1
          staging := (pres.map fun x => { x with pre := true }) ++ [{ tf with trigger := true }] })
    ∧ (j.capturing = true → j.toTake = 0 → received = d)
    ∧ (j.capturing = true → 0 < j.toTake → j.staging.length < 16 →
      received = goesOn { j with staging := j.staging ++ [tf], toTake := j.toTake - 1 })
    ∧ (j.capturing = true → 0 < j.toTake → 16 ≤ j.staging.length → received = ended .overrun)
    ∧ (j.capturing = true → j.staging ≠ [] → off = goesOn { j with toTake := 0, channelOff := true })
    ∧ (j.capturing = false ∨ j.staging = [] → off = ended .channelOff)
    ∧ tf.timeTag = r.timeTag ∧ tf.ch = j.ch ∧ tf.state = st ∧ tf.symbol = r.symbol ∧ tf.r = r.r
    ∧ tf.pre = false ∧ tf.trigger = false
    ∧ nine d.board.nx r.tipX tf.tipX ∧ nine d.board.ny r.tipY tf.tipY
    ∧ nine d.board.nx r.ringX tf.ringX ∧ nine d.board.ny r.ringY tf.ringY

/-! ### The Executor's posts (R13, R73, R78, R84 to R92, R141 to R143, R183, R185) -/

/-- SCAN_SETUP, taken: a frame rate code above 2 is rejected RANGE; while the engine is stopped, both channels IDLE, the
settings are applied at once, the divisor limited to 1..4 and channel B enabled only where it is fitted, with detail
NOT_FITTED where it was asked for and is not; while the engine runs the post waits. A post as a command of its own is the
model's (log entry 10). A SCAN_SETUP that waits is applied at the next frame start: the frame runs under it, a change of rate
puts the tracker in FREE and clears the slip, a channel it disables goes to IDLE, one that was tracked after its PROX_OUT, and
its result carries the frame's time tag. -/
def Obligations.ScanSetupAppliesOrWaits : Prop :=
  (∀ (s : State) (slot : Fin 32) (notify : Bool) (p : ScanSetupParams), s.dev.Open slot 5 →
    let m := s.dev.foundMark slot 5 notify
    (2 < p.rate.toNat →
      Sys2Proof.Machine.exec (.scanSetup slot notify p) s = .next
        { s with dev := s.dev.swept.completedSlot m .rejected .range [] })
    ∧ ∀ rate, [Rate.fps240, .fps360, .fps480][p.rate.toNat]? = some rate →
      (s.dev.scan.engine ≠ .stopped →
        let waits : Device := { s.dev.swept with exec := some { slot := slot, work := .scanSetup p } }
        Sys2Proof.Machine.exec (.scanSetup slot notify p) s = .next { s with dev := waits.tookSlot m })
      ∧ (s.dev.scan.engine = .stopped → (∀ ch, (s.dev.ctx ch).state = .idle) →
        let enA := p.enables.getLsbD 0
        let enB := p.enables.getLsbD 1 && s.dev.board.bFitted
        let divisor := max 1 (min p.divisor.toNat 4)
        let applied : Device := { s.dev.swept with scan := { s.dev.scan with
          rate := rate, enables := { a := enA, b := enB }, divisor := divisor } }
        let dt : Detail := if p.enables.getLsbD 1 = true ∧ s.dev.board.bFitted = false then .notFitted else .none
        let fields := le 1 (bit enA + 2 * bit enB) ++ le 1 divisor ++ le 2 0 ++ le 4 s.dev.clock.toNat
        Sys2Proof.Machine.exec (.scanSetup slot notify p) s = .next
          { s with dev := applied.completedSlot m .ok dt fields }))
  ∧ ∀ (s : State) (f : Frame) (slot : Fin 32) (q : ScanSetupParams) (rate : Rate), s.dev.scan.engine = .running f →
    f.period ≤ s.dev.scan.elapsed → f.Unheard → s.dev.Calm → s.dev.trace = none → s.dev.scan.arrivals = [] →
    s.dev.regs.run = true → s.dev.exec = some { slot := slot, work := .scanSetup q } →
    [Rate.fps240, .fps360, .fps480][q.rate.toNat]? = some rate →
    let on : PerChannel Bool := { a := q.enables.getLsbD 0, b := q.enables.getLsbD 1 && s.dev.board.bFitted }
    let was := s.dev.scan.enables
    let divisor := max 1 (min q.divisor.toNat 4)
    let changed := rate ≠ s.dev.scan.rate
    let slip := if changed then none else s.dev.scan.slip
    let dt : Detail := if q.enables.getLsbD 1 = true ∧ s.dev.board.bFitted = false then .notFitted else .none
    let fields := le 1 (bit on.a + 2 * bit on.b) ++ le 1 divisor ++ le 2 0 ++ le 4 s.dev.clock.toNat
    let m := s.dev.markOf slot
    let applies (t : State) (held : List Record) (produced : PerChannel (BitVec 32)) : Prop := ∃ g,
      Sys2Proof.Machine.exec .frameBoundary s = .next t ∧ t.pending = s.pending
      ∧ t.dev = Device.wrote { s.dev with
          chans := t.dev.chans
          delivery := { s.dev.delivery with holding := held }
          counters := { s.dev.counters with framesRun := s.dev.counters.framesRun + 1, produced := produced }
          exec := none
          intake := { s.dev.intake with inFlight := s.dev.intake.inFlight.filter fun x => x.slot != slot }
          scan := { s.dev.scan with
            engine := .running g, elapsed := 0, slip := none, rate := rate, enables := on, divisor := divisor
            tracker := if changed then .free else s.dev.scan.tracker
            lossElapsed := if changed then 0 else s.dev.scan.lossElapsed } }
          [resultWrite m .ok dt fields, doneWrite m]
      ∧ g.timeTag = s.dev.clock ∧ (g.slipped = true ↔ slip ≠ none) ∧ (slip = none → g.period = rate.period)
      ∧ (∀ ch, on.get ch = false → g.wins.get ch = none ∧ (was.get ch = true → (t.dev.ctx ch).state = .idle))
      ∧ ∀ ch, on.get ch = true → g.wins.get ch ≠ none ∧ (t.dev.ctx ch).state ≠ .idle
    let goes (ch : Channel) : Prop := was.get ch = true ∧ on.get ch = false ∧ (s.dev.ctx ch).state.tracked = true
    (¬goes .a → ¬goes .b → ∃ t, applies t [] s.dev.counters.produced)
    ∧ (goes .a → ¬goes .b → s.dev.delivery.captures = [] →
      let c := s.dev.ctx .a
      let counted := { s.dev.counters.produced with a := s.dev.counters.produced.a + 1 }
      ∃ t r, applies t [r] counted ∧ (t.dev.ctx .a).seq = c.seq + 1 ∧ (t.dev.ctx .a).stroke = c.stroke
        ∧ r.ch = .a ∧ r.state = .none ∧ r.event = .proxOut ∧ r.timeTag = s.dev.clock
        ∧ (r.flags.slip = true ↔ slip ≠ none) ∧ r.x = c.lastX ∧ r.y = c.lastY ∧ r.pressure = 0 ∧ r.tiltX = 0
        ∧ r.tiltY = 0 ∧ r.phase = 0 ∧ r.seq = c.seq ∧ r.stroke = c.stroke ∧ r.flags.gap = c.gap
        ∧ (r.flags.strokeEnd = true ↔ c.fromContact))

/-- PROFILE LOAD and DEFAULT, taken: LOAD of key 0 is rejected RANGE, a source that is not 8-aligned
ALIGN, and LOAD of a new key into a full table TABLE_FULL; one that passes asks for its 64-byte block. A post as a command of
its own is the model's (log entry 10). -/
def Obligations.ProfileLoadAndDefaultReadBlock : Prop :=
  ∀ (s : State) (slot : Fin 32) (notify : Bool) (key : Half) (source : Addr), s.dev.Open slot 2 →
    let m := s.dev.foundMark slot 2 notify
    let n := s.dev.profiles.entries.length
    let rejected (dt : Detail) : Device :=
      s.dev.swept.completedSlot m .rejected dt ([0] ++ le 1 n ++ [0, 0] ++ le 2 key.toNat ++ [0])
    let rd : ReadReq := { site := .executor, slot := some slot, addr := source, len := 64 }
    let reads (isDefault : Bool) : Device := { s.dev.swept with
      exec := some { slot := slot, work := .profile isDefault key }
      link := { s.dev.swept.link with inFlight := some { req := rd, elapsed := 0 } } }
    let held := ∃ e ∈ s.dev.profiles.entries, e.key = key
    (key = 0 →
      Sys2Proof.Machine.exec (.profileLoad slot notify key source) s = .next { s with dev := rejected .range })
    ∧ (key ≠ 0 → source.toNat % 8 ≠ 0 →
      Sys2Proof.Machine.exec (.profileLoad slot notify key source) s = .next { s with dev := rejected .align })
    ∧ (key ≠ 0 → source.toNat % 8 = 0 → ¬held → 8 ≤ n →
      Sys2Proof.Machine.exec (.profileLoad slot notify key source) s = .next { s with dev := rejected .tableFull })
    ∧ (key ≠ 0 → source.toNat % 8 = 0 → held ∨ n < 8 →
      Sys2Proof.Machine.exec (.profileLoad slot notify key source) s = .next
        { s with dev := (reads false).tookSlot m })
    ∧ (source.toNat % 8 ≠ 0 →
      Sys2Proof.Machine.exec (.profileDefault slot notify key source) s = .next { s with dev := rejected .align })
    ∧ (source.toNat % 8 = 0 →
      Sys2Proof.Machine.exec (.profileDefault slot notify key source) s = .next
        { s with dev := (reads true).tookSlot m })

/-- PROFILE REMOVE, taken: key 0 is rejected RANGE, a key the table does not hold NOT_FOUND; otherwise the entry goes, its
last revision in the result. CLEAR removes every entry and gives their number. Both keep the default profile. A post as a
command of its own is the model's (log entry 10). -/
def Obligations.ProfileRemoveAndClear : Prop :=
  ∀ (s : State) (slot : Fin 32) (notify : Bool) (key : Half), s.dev.Open slot 2 →
    let m := s.dev.foundMark slot 2 notify
    let n := s.dev.profiles.entries.length
    let rejected (dt : Detail) : Device :=
      s.dev.swept.completedSlot m .rejected dt ([0] ++ le 1 n ++ [0, 0] ++ le 2 key.toNat ++ [0])
    let holding (es : List ProfileEntry) : Device := { s.dev.swept with profiles := { s.dev.profiles with entries := es } }
    (key = 0 →
      Sys2Proof.Machine.exec (.profileRemove slot notify key) s = .next { s with dev := rejected .range })
    ∧ (key ≠ 0 → (∀ e ∈ s.dev.profiles.entries, e.key ≠ key) →
      Sys2Proof.Machine.exec (.profileRemove slot notify key) s = .next { s with dev := rejected .notFound })
    ∧ (∀ before e after, key ≠ 0 → s.dev.profiles.entries = before ++ e :: after → e.key = key →
      (∀ x ∈ before ++ after, x.key ≠ key) →
      let fields := [0] ++ le 1 (before.length + after.length) ++ [1, 0] ++ le 2 key.toNat ++ le 1 e.rev.toNat
      Sys2Proof.Machine.exec (.profileRemove slot notify key) s = .next
        { s with dev := (holding (before ++ after)).completedSlot m .ok .none fields })
    ∧ Sys2Proof.Machine.exec (.profileClear slot notify) s = .next
        { s with dev := (holding []).completedSlot m .ok .none ([0, 0] ++ le 1 n ++ [0, 0, 0, 0]) }

/-- PROFILE_BLOCK_READ_COMPLETE, in a calm part: a block whose fields are all in range replaces an entry at a revision one
higher, or makes a new one at revision 0, or replaces the default profile at a revision one higher; one with a bad field is
rejected BAD_PROFILE, with the number of the first that fails, and changes no profile. -/
def Obligations.ProfileBlockIsCheckedAndApplied : Prop :=
  ∀ (s : State) (slot : Fin 32) (isDefault : Bool) (key : Half) (bytes : List Byte) (rd : ReadInFlight),
    s.dev.exec = some { slot := slot, work := .profile isDefault key } → s.dev.Calm →
    s.dev.link.inFlight = some rd → rd.req.site = .executor → rd.req.len = 64 → bytes.length = 64 →
    let v := parseProfile bytes
    let r (i : Nat) : Nat := v.rs.getD i 0
    let q (i : Nat) : Nat := v.ps.getD i 0
    let passes (field : Nat) : Prop :=
      (field = 1 → 64 ≤ v.prox ∧ v.prox ≤ 60000) ∧ (field = 2 → 1 ≤ v.off ∧ v.off ≤ 4094)
      ∧ (field = 3 → v.off < v.on ∧ v.on ≤ 4095)
      ∧ (4 ≤ field → field ≤ 12 → r (field - 4) ≤ 4095) ∧ (5 ≤ field → field ≤ 12 → r (field - 5) < r (field - 4))
      ∧ (13 ≤ field → field ≤ 21 → q (field - 13) ≤ 16383)
      ∧ (14 ≤ field → field ≤ 21 → q (field - 14) ≤ q (field - 13))
      ∧ (field = 22 → v.k ≤ 3) ∧ (field = 23 → 64 ≤ v.s ∧ v.s ≤ 2048) ∧ (field = 24 → v.bias ≤ 64)
    let inRange := ∀ field, 1 ≤ field → field ≤ 24 → passes field
    let m := s.dev.markOf slot
    let done (ps : Profiles) (st : Status) (dt : Detail) (fields : List Byte) : Device :=
      Device.wrote { s.dev with
        exec := none
        profiles := ps
        intake := { s.dev.intake with inFlight := s.dev.intake.inFlight.filter fun x => x.slot != slot }
        link := { s.dev.link with inFlight := none } } [resultWrite m st dt fields, doneWrite m]
    let p := s.dev.profiles
    let n := p.entries.length
    (∀ index, 1 ≤ index → index ≤ 24 → ¬passes index → (∀ i, 1 ≤ i → i < index → passes i) →
      let d := done p .rejected .badProfile (le 1 index ++ le 1 n ++ [0, 0] ++ le 2 key.toNat ++ [0])
      Sys2Proof.Machine.exec (.profileBlockReadComplete bytes) s = .next { s with dev := d })
    ∧ (inRange → isDefault = true →
      let p' : Profiles := { p with default := v, defaultRev := p.defaultRev + 1 }
      let d := done p' .ok .none ([0] ++ le 1 n ++ [0, 0, 0, 0] ++ le 1 (p.defaultRev + 1).toNat)
      Sys2Proof.Machine.exec (.profileBlockReadComplete bytes) s = .next { s with dev := d })
    ∧ (inRange → isDefault = false → (∀ e ∈ p.entries, e.key ≠ key) →
      let p' : Profiles := { p with entries := p.entries ++ [{ key := key, rev := 0, profile := v }] }
      let d := done p' .ok .none ([0] ++ le 1 (n + 1) ++ [0, 0] ++ le 2 key.toNat ++ [0])
      Sys2Proof.Machine.exec (.profileBlockReadComplete bytes) s = .next { s with dev := d })
    ∧ ∀ before e after, inRange → isDefault = false → p.entries = before ++ e :: after → e.key = key →
      (∀ x ∈ before, x.key ≠ key) →
      let p' : Profiles := { p with entries := before ++ { e with rev := e.rev + 1, profile := v } :: after }
      let d := done p' .ok .none ([0] ++ le 1 n ++ [0, 0] ++ le 2 key.toNat ++ le 1 (e.rev + 1).toNat)
      Sys2Proof.Machine.exec (.profileBlockReadComplete bytes) s = .next { s with dev := d }

/-- MAP_LOAD, taken: a count above 1024, a count of 0 without CLEAR and a run past the node count are
rejected RANGE, and a source that is not 8-aligned ALIGN, with the map as it was; one that passes applies CLEAR and asks for
its first piece of up to 16 entries; a count of 0 completes at once, READY if FINAL is set. A post as a command of its own is
the model's (log entry 10). -/
def Obligations.MapLoadBegins : Prop :=
  ∀ (s : State) (slot : Fin 32) (notify : Bool) (p : MapParams), s.dev.Open slot 3 →
    let m := s.dev.foundMark slot 3 notify
    let clear := p.flags.getLsbD 0
    let final := p.flags.getLsbD 1
    let start := p.start.toNat
    let count := p.count.toNat
    let nodes := (s.dev.board.nx / 4 + 1) * (s.dev.board.ny / 4 + 1)
    let inRun := count ≤ 1024 ∧ (count = 0 → clear = true) ∧ start + count ≤ nodes
    let cleared : CorrectionMap :=
      if clear then { s.dev.map with state := .absent, scrubWaiting := false, scrubPass := 0 } else s.dev.map
    (¬inRun → Sys2Proof.Machine.exec (.mapLoad slot notify p) s = .next
      { s with dev := s.dev.swept.completedSlot m .rejected .range [] })
    ∧ (inRun → count ≠ 0 → p.addr.toNat % 8 ≠ 0 →
      Sys2Proof.Machine.exec (.mapLoad slot notify p) s = .next
        { s with dev := s.dev.swept.completedSlot m .rejected .align [] })
    ∧ (inRun → count ≠ 0 → p.addr.toNat % 8 = 0 →
      let w : MapLoadWork :=
        { start := start, count := count, source := p.addr, final := final, written := 0, clamped := 0, verify := 0,
          entries := [] }
      let rd : ReadReq := { site := .executor, slot := some slot, addr := p.addr, len := 8 * min 16 count }
      let reads : Device := { s.dev.swept with
        map := cleared
        exec := some { slot := slot, work := .mapLoad w }
        link := { s.dev.swept.link with inFlight := some { req := rd, elapsed := 0 } } }
      Sys2Proof.Machine.exec (.mapLoad slot notify p) s = .next { s with dev := reads.tookSlot m })
    ∧ (inRun → count = 0 →
      let done : Device := { s.dev.swept with
        map := { cleared with state := if final then .ready else cleared.state } }
      Sys2Proof.Machine.exec (.mapLoad slot notify p) s = .next
        { s with dev := done.completedSlot m .ok .none (le 6 0) })

/-- MAP_PIECE_READ_COMPLETE, in a calm part with the map port free: the piece's entries are kept in order, the first
one's parts are limited to −1024..1023 and it is counted as clamped if that changed one, and its node is written at the grant
made at once. The write at the grant is the model's (log entry 14), and so is that only the first entry is limited and counted
here, the others staying as they were fetched (log entry 35). -/
def Obligations.MapPieceWritesFirstNode : Prop :=
  ∀ (s : State) (slot : Fin 32) (w : MapLoadWork) (bytes : List Byte) (rd : ReadInFlight),
    s.dev.exec = some { slot := slot, work := .mapLoad w } → s.dev.Calm →
    s.dev.link.inFlight = some rd → rd.req.site = .executor → rd.req.len = bytes.length → 8 ≤ bytes.length →
    s.dev.map.grant = none → s.dev.map.solverWaiting = false → s.dev.map.scrubWaiting = false →
    ∃ entries : List (Int × Int),
      entries.length = bytes.length / 8
      ∧ (∀ k < bytes.length / 8, entries[k]? = some
        ((BitVec.ofNat 16 (leValue ((bytes.drop (8 * k)).take 2))).toInt,
          (BitVec.ofNat 16 (leValue ((bytes.drop (8 * k + 2)).take 2))).toInt))
      ∧ ∀ e more, entries = e :: more →
        let limit (v : Int) : Int := max (-1024) (min v 1023)
        let word : NodeWord :=
          { cx := BitVec.ofInt 16 (limit e.1), cy := BitVec.ofInt 16 (limit e.2), flips := 0 }
        let limited : MapLoadWork := { w with
          clamped := w.clamped + (if -1024 ≤ e.1 ∧ e.1 ≤ 1023 ∧ -1024 ≤ e.2 ∧ e.2 ≤ 1023 then 0 else 1)
          entries := (limit e.1, limit e.2) :: more }
        let node := w.start + w.written
        let nodes := storeNode s.dev.map.nodes node word
        let g : Grant := { who := .executor, node := node, word := readNode nodes node }
        Sys2Proof.Machine.exec (.mapPieceReadComplete bytes) s = .next { s with dev := { s.dev with
          exec := some { slot := slot, work := .mapLoad limited }
          map := { s.dev.map with nodes := nodes, grant := some g, execPass := 0, execWaiting := false }
          link := { s.dev.link with inFlight := none } } }

/-- MAP_READ, taken with the map port free and no other request waiting: a count outside 1..1024 or a run past the node count
is rejected RANGE, a destination that is not 8-aligned ALIGN; one that passes reads its first node at the grant made at once,
whatever the map state. A post as a command of its own is the model's (log entry 10). -/
def Obligations.MapReadBegins : Prop :=
  ∀ (s : State) (slot : Fin 32) (notify : Bool) (p : MapParams), s.dev.Open slot 4 → s.dev.map.grant = none →
    s.dev.map.solverWaiting = false → s.dev.map.execWaiting = false → s.dev.map.scrubWaiting = false →
    let m := s.dev.foundMark slot 4 notify
    let start := p.start.toNat
    let count := p.count.toNat
    let inRun := 1 ≤ count ∧ count ≤ 1024 ∧ start + count ≤ (s.dev.board.nx / 4 + 1) * (s.dev.board.ny / 4 + 1)
    (¬inRun → Sys2Proof.Machine.exec (.mapRead slot notify p) s = .next
      { s with dev := s.dev.swept.completedSlot m .rejected .range [] })
    ∧ (inRun → p.addr.toNat % 8 ≠ 0 → Sys2Proof.Machine.exec (.mapRead slot notify p) s = .next
      { s with dev := s.dev.swept.completedSlot m .rejected .align [] })
    ∧ (inRun → p.addr.toNat % 8 = 0 →
      let w : MapReadWork :=
        { start := start, count := count, dest := p.addr, done := 0, corrected := 0, uncorrectable := 0, group := [] }
      let g : Grant := { who := .executor, node := start, word := readNode s.dev.map.nodes start }
      let reads : Device := { s.dev.swept with
        map := { s.dev.map with grant := some g, execPass := 0 }
        exec := some { slot := slot, work := .mapRead w } }
      Sys2Proof.Machine.exec (.mapRead slot notify p) s = .next { s with dev := reads.tookSlot m })

/-- CLOCK_SET, taken, sets the clock and gives the value before and the value set. COUNTERS, taken, with its destination not
32-aligned is rejected ALIGN; otherwise one 64-byte block with counter n at offset 4(n-1) goes to the destination before the
result, and CLEAR sets every counter to 0. A post as a command of its own is the model's (log entry 10). -/
def Obligations.ClockSetAndCounters : Prop :=
  ∀ (s : State) (slot : Fin 32) (notify : Bool) (value : BitVec 32) (p : CountersParams),
    (s.dev.Open slot 9 →
     let m := s.dev.foundMark slot 9 notify
     let set : Device := { s.dev.swept with clock := value }
     Sys2Proof.Machine.exec (.clockSet slot notify value) s = .next
      { s with dev := set.completedSlot m .ok .none (le 4 s.dev.clock.toNat ++ le 4 value.toNat) })
    ∧ (s.dev.Open slot 7 →
       let m := s.dev.foundMark slot 7 notify
       let clear := p.flags.getLsbD 0
       (p.dest.toNat % 32 ≠ 0 → Sys2Proof.Machine.exec (.counters slot notify p) s = .next
        { s with dev := s.dev.swept.completedSlot m .rejected .align [] })
       ∧ (p.dest.toNat % 32 = 0 → ∃ block : HostWrite, block.role = .bulk ∧ block.addr = p.dest
        ∧ block.data.length = 64
        ∧ (∀ n < 16, leValue ((block.data.drop (4 * n)).take 4) = (s.dev.counters.list.getD n 0).toNat)
        ∧ (let zeroed : Device := { s.dev.swept with counters := if clear then Counters.zero else s.dev.counters }
           let fields := [if clear then 1 else 0, 0, 0, 0] ++ le 4 s.dev.clock.toNat
           let ws := [takenWrite m, block, resultWrite m .ok .none fields, doneWrite m]
           Sys2Proof.Machine.exec (.counters slot notify p) s = .next
            { s with dev := (zeroed.rotated slot).wrote ws })))

/-- CANCEL, taken: MASK completes every open capture whose mask meets the given one, in queue order, TRACE ends a held trace,
SLOT the capture of that slot or failing that its trace; each completion's writes, CANCELLED, go before the CANCEL's own,
whose result gives their number. A mask that names no channel and a slot above 31 are rejected RANGE. No record is touched. A
post as a command of its own is the model's (log entry 10), and so is that a CANCEL by slot is routed to both units within one
command, the Link Port settling between its two requests: an entry into HALTED there completes it with FAULT and the number 0
(log entry 22), and pauses the idle timers (log entry 38). -/
def Obligations.CancelCompletesWork : Prop :=
  (∀ (s : State) (slot : Fin 32) (notify : Bool) (mask : Byte) (target : Byte), s.dev.Open slot 8 →
    let m := s.dev.foundMark slot 8 notify
    let rejected : State := { s with dev := s.dev.swept.completedSlot m .rejected .range [] }
    let markOf (x : Fin 32) : SlotMark := (s.dev.marked m).markOf x
    let capWrites (c : Capture) : List HostWrite :=
      [resultWrite (markOf c.slot) .cancelled .none (c.fields .cancelled), doneWrite (markOf c.slot)]
    let traceWrites (j : TraceJob) : List HostWrite :=
      [resultWrite (markOf j.slot) .cancelled .none j.fields, doneWrite (markOf j.slot)]
    let ends (t : State) (done : List HostWrite) (n : Nat) : Prop :=
      t.pending = s.pending ∧ t.dev.delivery.holding = [] ∧ t.dev.link.buffer.length ≤ 4 ∧ t.dev.exec = none
      ∧ t.dev.link.buffer ++ t.dev.link.slotQueue
        = [takenWrite m] ++ done ++ [resultWrite m .ok .none (le 1 n), doneWrite m]
    let meets (c : Capture) : Bool := (c.mask.a && mask.getLsbD 0) || (c.mask.b && mask.getLsbD 1)
    let hits := s.dev.delivery.captures.filter meets
    (¬(mask = 1 ∨ mask = 2 ∨ mask = 3) →
      Sys2Proof.Machine.exec (.cancelMask slot notify mask) s = .next rejected)
    ∧ (mask = 1 ∨ mask = 2 ∨ mask = 3 → (s.dev.delivery.captures.map fun c => c.slot).Nodup →
      ∃ t, Sys2Proof.Machine.exec (.cancelMask slot notify mask) s = .next t
        ∧ ends t (hits.flatMap capWrites) hits.length ∧ t.dev.trace = s.dev.trace
        ∧ t.dev.delivery.captures = s.dev.delivery.captures.filter (fun c => !meets c)
        ∧ t.dev.counters = { s.dev.counters with
            capCancelled := s.dev.counters.capCancelled + BitVec.ofNat 32 hits.length })
    ∧ (∃ t, Sys2Proof.Machine.exec (.cancelTrace slot notify) s = .next t ∧ t.dev.trace = none
      ∧ t.dev.delivery = s.dev.delivery ∧ t.dev.counters = s.dev.counters
      ∧ (s.dev.trace = none → ends t [] 0) ∧ ∀ j, s.dev.trace = some j → ends t (traceWrites j) 1)
    ∧ (32 ≤ target.toNat → Sys2Proof.Machine.exec (.cancelSlot slot notify target) s = .next rejected)
    ∧ (target.toNat < 32 → ∃ t, Sys2Proof.Machine.exec (.cancelSlot slot notify target) s = .next t
      ∧ (∀ c, s.dev.delivery.captures.find? (fun c => c.slot.val == target.toNat) = some c →
        ends t (capWrites c) 1 ∧ t.dev.trace = s.dev.trace
        ∧ t.dev.delivery.captures = s.dev.delivery.captures.filter (fun x => x.slot.val != target.toNat)
        ∧ t.dev.counters = { s.dev.counters with capCancelled := s.dev.counters.capCancelled + 1 })
      ∧ (s.dev.delivery.captures.find? (fun c => c.slot.val == target.toNat) = none →
        t.dev.delivery = s.dev.delivery ∧ t.dev.counters = s.dev.counters
        ∧ (∀ j, s.dev.trace = some j → j.slot.val = target.toNat → ends t (traceWrites j) 1 ∧ t.dev.trace = none)
        ∧ ((∀ j, s.dev.trace = some j → j.slot.val ≠ target.toNat) → ends t [] 0 ∧ t.dev.trace = s.dev.trace))))
  ∧ ∀ (s : State) (slot : Fin 32) (notify : Bool) (target : Byte),
    Device.Open { s.dev with link := { s.dev.link with inputs := { s.dev.link.inputs with mastering := true } } } slot 8 →
    s.dev.link.inputs.mastering = false → s.dev.trace = none → target.toNat < 32 →
    s.dev.delivery.captures.find? (fun c => c.slot.val == target.toNat) = none →
    let m := s.dev.foundMark slot 8 notify
    ∃ t, Sys2Proof.Machine.exec (.cancelSlot slot notify target) s = .next t ∧ t.pending = s.pending
      ∧ t.dev.link.halted = true ∧ t.dev.exec = none ∧ t.dev.intake.sweep = none ∧ t.dev.delivery = s.dev.delivery.paused
      ∧ t.dev.link.buffer = [takenWrite m, resultWrite m .fault .none (le 1 0), doneWrite m]
      ∧ (s.dev.link.faultRecord = none → t.dev.link.faultRecord
        = some { cls := .masterOff, site := .drain, slot := none, clock := s.dev.clock })

/-- A post row is the completion of the body read a sweep waits for at its slot, POSTED with its kind; where no sweep waits
there for a body read in flight, and so while INTAKE has never been set and while HALTED, the part has read no such post and
nothing changes (log entry 10). A slot in flight is never handled, and a CAPTURE with the Capture Queue full or a post for a
busy Executor is skipped and stays POSTED (the walk has made these tests before the body was read, so here they hold in no
run): the sweep ends when that was its last slot, and otherwise goes on in either mode, here to a CAPTURE whose body is
read. -/
def Obligations.PostNotHandledChangesNothing : Prop :=
  ∀ (s : State) (i : Instr) (slot : Fin 32) (kind : Byte), postRow i = some (slot, kind) →
    ((∀ sw rest, s.dev.intake.sweep = some sw → sw.phase ≠ .body slot rest) → Sys2Proof.Machine.exec i s = .next s)
    ∧ ((∀ f, s.dev.link.inFlight = some f → f.req.site ≠ .body) → Sys2Proof.Machine.exec i s = .next s)
    ∧ (∀ sw, s.dev.intake.sweep = some sw → stripKind (sw.snapshot.getD slot.val 0) ≠ kind →
      Sys2Proof.Machine.exec i s = .next s)
    ∧ (s.dev.link.halted = true → s.dev.QuietWhenHalted → Sys2Proof.Machine.exec i s = .next s)
    ∧ ∀ sw rest f, s.dev.intake.sweep = some sw → sw.phase = .body slot rest →
      stripKind (sw.snapshot.getD slot.val 0) = kind → s.dev.link.inFlight = some f → f.req.site = .body →
      s.dev.Calm → s.dev.intake.promptPending = false → sw.ending = false →
      s.dev.isInFlight slot = true ∨ (kind = 1 ∧ 16 ≤ s.dev.delivery.captures.length)
        ∨ (kind ≠ 1 ∧ kind ≠ 6 ∧ s.dev.exec ≠ none) →
      (rest = [] → Sys2Proof.Machine.exec i s = .next { s with dev := s.dev.swept })
      ∧ ∀ next more, rest = next :: more → stripState (sw.snapshot.getD next.val 0) = 1 →
        stripKind (sw.snapshot.getD next.val 0) = 1 → next ∉ sw.held → s.dev.isInFlight next = false →
        s.dev.delivery.captures.length < 16 →
        let rd : ReadReq :=
          { site := .body, slot := some next, addr := sw.base + BitVec.ofNat 64 (128 + 64 * next.val), len := 64 }
        Sys2Proof.Machine.exec i s = .next { s with dev := { s.dev with
          intake := { s.dev.intake with sweep := some { sw with phase := .body next more } }
          link := { s.dev.link with inFlight := some { req := rd, elapsed := 0 } } } }

/-! ### The Link Port (R157 to R172, R180) -/

/-- WRITE_ACCEPTED: with the head issued it leaves the buffer and goes out, and EVENT.DONE is set if it is the DONE write of
a NOTIFY slot, and only then (Device.Accepts). The freed entry goes to the first class that waits: with a full buffer, a
held record of a channel with an open capture, else the oldest slot write, else the oldest staged trace frame, whose last
one with none to take completes the trace, else a MAP_READ group, after which the next node is granted or the post
completes, or the counter block, copied and, with CLEAR, zeroed in the same event. With none waiting the next head is
issued. A sweep that waits for strip writes counts the entry, and asks for its strip read when the last has left. With no
head issued nothing happens (log entry 5). What has gone out on the link is the model's own list (log entry 7). -/
def Obligations.WriteAcceptedFreesHead : Prop :=
  ∀ (s : State),
    (s.dev.link.buffer = [] ∨ s.dev.link.issued = false → Sys2Proof.Machine.exec .writeAccepted s = .next s)
    ∧ ∀ (w : HostWrite) (rest : List HostWrite) (d : Device), s.dev.link.buffer = w :: rest → s.dev.link.issued = true →
      s.dev.link.inputs.up = true → s.dev.link.inputs.mastering = true → s.dev.Accepts w rest d →
      let left (b : List HostWrite) : LinkPort := { d.link with buffer := b, issued := !b.isEmpty }
      let next (d' : Device) : Prop := Sys2Proof.Machine.exec .writeAccepted s = .next { s with dev := d' }
      let noStrips := ∀ sw n, s.dev.intake.sweep = some sw → sw.phase ≠ .waitStrips n
      let noFrames := ∀ j, s.dev.trace = some j → j.staging = []
      let mark := s.dev.markOf
      (s.dev.delivery.holding = [] → s.dev.link.slotQueue = [] → noFrames → bulkGrant s.dev = none →
        (noStrips → next { d with link := left rest })
        ∧ (∀ sw n, s.dev.intake.sweep = some sw → sw.phase = .waitStrips (n + 2) →
          next { d with
            link := left rest
            intake := { s.dev.intake with sweep := some { sw with phase := .waitStrips (n + 1) } } })
        ∧ ∀ sw, s.dev.intake.sweep = some sw → sw.phase = .waitStrips 1 → s.dev.link.halted = false →
          s.dev.link.waiting = [] →
          let rd : ReadReq := { site := .sweep, slot := none, addr := sw.base, len := 128 }
          let reads : Intake := { s.dev.intake with sweep := some { sw with phase := .strip } }
          (s.dev.link.inFlight = none →
            next { d with link := { left rest with inFlight := some { req := rd, elapsed := 0 } }, intake := reads })
          ∧ (s.dev.link.inFlight ≠ none → next { d with link := { left rest with waiting := [rd] }, intake := reads }))
      ∧ (rest.length = 3 → noStrips →
        (∀ r more c, s.dev.delivery.holding = r :: more → s.dev.link.halted = false →
          s.dev.delivery.captures = [c] → c.mask.get r.ch = true → c.count + 1 < c.capacity →
          c.endOnLift = false → c.endOnProxOut = false →
          let record : HostWrite :=
            { role := .record, addr := c.buffer + BitVec.ofNat 64 (32 * c.count), data := r.image }
          let c' : Capture := { c with
            count := c.count + 1, last := some { ch := r.ch, seq := r.seq, timeTag := r.timeTag }, elapsed := 0 }
          next { d with
            link := left (rest ++ [record])
            delivery := { holding := more, captures := [c'] }
            counters := { s.dev.counters with
              delivered := s.dev.counters.delivered.set r.ch (s.dev.counters.delivered.get r.ch + 1) } })
        ∧ (s.dev.delivery.holding = [] →
          (∀ v q, s.dev.link.slotQueue = v :: q →
            let freed : Intake := { s.dev.intake with inFlight := match v.role with
              | .done slot _ => s.dev.intake.inFlight.filter fun x => x.slot != slot
              | _ => s.dev.intake.inFlight }
            next { d with link := { left (rest ++ [v]) with slotQueue := q }, intake := freed })
          ∧ (s.dev.link.slotQueue = [] →
            (∀ j fr more, s.dev.trace = some j → j.staging = fr :: more →
              let frame : HostWrite :=
                { role := .traceFrame, addr := j.dest + BitVec.ofNat 64 (96 * j.written), data := fr.image }
              let j' : TraceJob := { j with staging := more, written := j.written + 1 }
              let dt : Detail := if j.channelOff then .channelOff else .none
              let ws := [resultWrite (mark j.slot) .ok dt j'.fields, doneWrite (mark j.slot)]
              (more ≠ [] ∨ j.toTake ≠ 0 → next { d with link := left (rest ++ [frame]), trace := some j' })
              ∧ (more = [] → j.toTake = 0 →
                next { d with link := { left (rest ++ [frame]) with slotQueue := ws }, trace := none }))
            ∧ (noFrames →
              (∀ slot g, s.dev.exec = some { slot := slot, work := .mapRead g } → g.group ≠ [] →
                g.group.length = min 16 (g.count - g.done) →
                let ok (o : ReadOutcome) : Nat := (g.group.filter fun x => x.outcome == o).length
                let block : HostWrite := { role := .bulk, addr := g.dest + BitVec.ofNat 64 (8 * g.done)
                                           data := g.group.flatMap NodeOutput.image }
                let counts := le 2 g.count ++ le 2 (g.corrected + ok .corrected)
                  ++ le 2 (g.uncorrectable + ok .uncorrectable)
                let ws := [resultWrite (mark slot) .ok .none counts, doneWrite (mark slot)]
                (g.done + g.group.length = g.count →
                  next { d with link := { left (rest ++ [block]) with slotQueue := ws }, exec := none })
                ∧ (g.done + g.group.length < g.count → s.dev.map.grant = none → s.dev.map.solverWaiting = false →
                  s.dev.map.execWaiting = false → s.dev.map.scrubWaiting = false →
                  let node := g.start + g.done + g.group.length
                  let g' : MapReadWork := { g with
                    done := g.done + g.group.length, corrected := g.corrected + ok .corrected
                    uncorrectable := g.uncorrectable + ok .uncorrectable, group := [] }
                  let grant : Grant := { who := .executor, node := node, word := readNode s.dev.map.nodes node }
                  next { d with
                    link := left (rest ++ [block])
                    exec := some { slot := slot, work := .mapRead g' }
                    map := { s.dev.map with grant := some grant, execPass := 0 } }))
              ∧ ∀ slot dest clear, s.dev.exec = some { slot := slot, work := .counters dest clear } →
                ∃ block : HostWrite, block.role = .bulk ∧ block.addr = dest ∧ block.data.length = 64
                ∧ (∀ n < 16, leValue ((block.data.drop (4 * n)).take 4) = (s.dev.counters.list.getD n 0).toNat)
                ∧ (let fields := [if clear then 1 else 0, 0, 0, 0] ++ le 4 s.dev.clock.toNat
                   let ws := [resultWrite (mark slot) .ok .none fields, doneWrite (mark slot)]
                   next { d with
                    link := { left (rest ++ [block]) with slotQueue := ws }
                    exec := none
                    counters := if clear then Counters.zero else s.dev.counters })))))

/-- READ_ERROR, and READ_TIMEOUT after 10 ms, end the read in flight with a fault: an empty Fault Record takes the class,
the read's site and slot and the clock, a full one stays; EVENT.FAULT is set; the part is HALTED with no read, no sweep, no
prompt pending and no trace; the Executor's post completes with status FAULT. Scanning, the contexts, the profiles and the
clock stay; the captures stay with their idle timers paused, one that was due short of its timeout, by one µs (log entry
38). With no read in flight, or before 10 ms, nothing happens (log entries 5, 11). -/
def Obligations.ReadFaultsHalt : Prop :=
  ∀ (s : State) (cls : FaultClass) (i : Instr),
    (i = .readError ∧ cls = .readError ∨ i = .readTimeout ∧ cls = .readTimeout) →
    (s.dev.link.inFlight = none → Sys2Proof.Machine.exec i s = .next s)
    ∧ ∀ f, s.dev.link.inFlight = some f →
      (i = .readTimeout → f.elapsed < 10000 → Sys2Proof.Machine.exec i s = .next s)
      ∧ ((i = .readTimeout → 10000 ≤ f.elapsed) →
        ∃ t, Sys2Proof.Machine.exec i s = .next t ∧ t.pending = s.pending
          ∧ t.dev.link.halted = true ∧ t.dev.regs.event.getLsbD 1 = true
          ∧ (s.dev.link.faultRecord = none → t.dev.link.faultRecord = some
            (FaultEntry.mk cls f.req.site f.req.slot s.dev.clock))
          ∧ (∀ e, s.dev.link.faultRecord = some e → t.dev.link.faultRecord = some e)
          ∧ t.dev.link.inFlight = none ∧ t.dev.link.waiting = [] ∧ t.dev.intake.sweep = none
          ∧ t.dev.intake.promptPending = false ∧ t.dev.exec = none ∧ t.dev.trace = none
          ∧ (∀ p, s.dev.exec = some p → ∃ w ∈ t.dev.link.buffer ++ t.dev.link.slotQueue,
            w.role = .result p.slot ∧ w.data.head? = some 4)
          ∧ s.dev.link.buffer <+: t.dev.link.buffer
          ∧ t.dev.delivery = s.dev.delivery.paused ∧ t.dev.scan = s.dev.scan ∧ t.dev.chans = s.dev.chans
          ∧ t.dev.profiles = s.dev.profiles ∧ t.dev.clock = s.dev.clock ∧ t.dev.board = s.dev.board)

/-- LINK_DOWN from ACTIVE: while HALTED, or with no read in flight and an empty buffer, only the link state changes, and the
head is no longer being issued (log entry 21); with a read in flight the fault LINK_DOWN is raised with its site and slot;
failing that, with a write in the buffer, at site DRAIN. The buffer keeps its writes, and the idle timers
pause (log entry 38). A link that is DOWN stays so. -/
def Obligations.LinkDownFaults : Prop :=
  ∀ s : State,
    (s.dev.link.inputs.up = false → Sys2Proof.Machine.exec .linkDown s = .next s)
    ∧ (s.dev.link.inputs.up = true →
      (s.dev.link.halted = true ∨ (s.dev.link.inFlight = none ∧ s.dev.link.buffer = []) →
        Sys2Proof.Machine.exec .linkDown s = .next { s with dev := { s.dev with link := { s.dev.link with
          inputs := { s.dev.link.inputs with up := false }, issued := false } } })
      ∧ (∀ site slot, s.dev.link.halted = false →
        (∃ f, s.dev.link.inFlight = some f ∧ f.req.site = site ∧ f.req.slot = slot)
          ∨ (s.dev.link.inFlight = none ∧ s.dev.link.buffer ≠ [] ∧ site = .drain ∧ slot = none) →
        ∃ t, Sys2Proof.Machine.exec .linkDown s = .next t ∧ t.pending = s.pending
          ∧ t.dev.link.inputs.up = false ∧ t.dev.link.halted = true ∧ t.dev.regs.event.getLsbD 1 = true
          ∧ (s.dev.link.faultRecord = none → t.dev.link.faultRecord = some
            (FaultEntry.mk .linkDown site slot s.dev.clock))
          ∧ (∀ e, s.dev.link.faultRecord = some e → t.dev.link.faultRecord = some e)
          ∧ t.dev.link.inFlight = none ∧ t.dev.link.issued = false ∧ s.dev.link.buffer <+: t.dev.link.buffer
          ∧ t.dev.delivery = s.dev.delivery.paused ∧ t.dev.scan = s.dev.scan ∧ t.dev.chans = s.dev.chans))

/-- LINK_UP with mastering enabled, and mastering enabled while the link is ACTIVE, issue a head write that waits, HALTED or
not, and send a pending message whose condition still holds; HALTED, EVENT and the Fault Record stay. Mastering disabled while
nothing has to be issued changes the enable alone. The list of what has gone out is the model's own (log entry 7). -/
def Obligations.LinkReturnIssuesHead : Prop :=
  ∀ s : State,
    (∀ i, (i = .linkUp ∧ s.dev.link.inputs.mastering = true)
        ∨ (i = .busMasteringChange true ∧ s.dev.link.inputs.up = true) →
      ∃ t, Sys2Proof.Machine.exec i s = .next t ∧ t.pending = s.pending
        ∧ t.dev.link.inputs = { s.dev.link.inputs with up := true, mastering := true }
        ∧ s.dev.link.buffer <+: t.dev.link.buffer
        ∧ (s.dev.link.buffer ≠ [] → t.dev.link.issued = true)
        ∧ (s.dev.regs.msgPending = true → s.dev.regs.event &&& s.dev.regs.mask ≠ 0 →
          s.dev.link.inputs.msiOn = true → t.dev.regs.msgPending = false
          ∧ t.dev.link.sent = .message s.dev.link.inputs.msiAddr s.dev.link.inputs.msiData :: s.dev.link.sent)
        ∧ t.dev.link.halted = s.dev.link.halted ∧ t.dev.regs.event = s.dev.regs.event
        ∧ t.dev.link.faultRecord = s.dev.link.faultRecord ∧ t.dev.scan = s.dev.scan ∧ t.dev.chans = s.dev.chans)
    ∧ (s.dev.Calm →
      Sys2Proof.Machine.exec (.busMasteringChange false) s = .next { s with dev := { s.dev with
        link := { s.dev.link with inputs := { s.dev.link.inputs with mastering := false } } } })

/-- STALE_READ_COMPLETION is discarded. MESSAGE_INTERRUPT_ENABLE_CHANGE sets the configuration; the line follows it at once; a
pending message is sent to the new address only when messages are enabled, the condition holds and the link takes it. That a
pending message follows the configuration is the model's (log entry 8). -/
def Obligations.StaleDataAndMessageEnable : Prop :=
  ∀ (s : State) (bytes : List Byte) (on : Bool) (addr : Addr) (data : BitVec 32),
    Sys2Proof.Machine.exec (.staleReadCompletion bytes) s = .next s
    ∧ (let inputs : LinkInputs := { s.dev.link.inputs with msiOn := on, msiAddr := addr, msiData := data }
       let due := s.dev.regs.msgPending = true ∧ s.dev.regs.event &&& s.dev.regs.mask ≠ 0 ∧ on = true
        ∧ s.dev.link.inputs.up = true ∧ s.dev.link.inputs.mastering = true
       ∃ t, Sys2Proof.Machine.exec (.messageInterruptEnableChange on addr data) s = .next t
        ∧ (¬due → t = { s with dev := { s.dev with link := { s.dev.link with inputs := inputs } } })
        ∧ (due → t = { s with dev := { s.dev with
            link := { s.dev.link with inputs := inputs, sent := .message addr data :: s.dev.link.sent }
            regs := { s.dev.regs with msgPending := false } } })
        ∧ (t.dev.line = true ↔ on = false ∧ s.dev.regs.event &&& s.dev.regs.mask ≠ 0))

/-! ### What the part computes (R33, R42, R43, R47 to R58, R66, R102 to R104, R110, R190, R196) -/

/-- R33: the tool code of ten collected values is the base-4 number of the first eight, the received check four times the
ninth plus the tenth, and the reading is good when that equals the sum of the code's four nibbles modulo 16; so a context at
nine values takes a tenth to KNOWN with that code exactly then, and otherwise to UNKNOWN, or FAILED at its third attempt. -/
def Obligations.ToolCodeDecodes : Prop :=
  ∀ (c : Context) (a0 a1 a2 a3 a4 a5 a6 a7 a8 a9 : Fin 4), c.ident = .reading →
    c.digits = [a0, a1, a2, a3, a4, a5, a6, a7, a8] →
    let code := a0.val * 4 ^ 7 + a1.val * 4 ^ 6 + a2.val * 4 ^ 5 + a3.val * 4 ^ 4 + a4.val * 4 ^ 3 + a5.val * 4 ^ 2
      + a6.val * 4 + a7.val
    let check := 4 * a8.val + a9.val
    let nibbles := code % 16 + code / 16 % 16 + code / 256 % 16 + code / 4096
    let c' := c.applySymbol (.digit a9)
    (c'.ident = .known ↔ check = nibbles % 16)
    ∧ (c'.ident = .known → c'.code.toNat = code)
    ∧ (c'.ident ≠ .known → c'.code = c.code ∧ c'.attempts = c.attempts + 1
      ∧ (c'.ident = .failed ↔ 2 ≤ c.attempts) ∧ (c'.ident = .unknown ↔ c.attempts < 2))

/-- R41 to R43, for a part that covers its axis of N loops or lies in it with nine: the peak is the lowest loop of the
greatest amplitude; its neighbours are the amplitudes beside it, 0 beyond a grid edge, and copies of each other at a window
edge that is no grid edge, which sets the edge flag; with d = 2·a0 − a− − a+, which is not negative, the crest offset is 0
where d is 0 and trunc(128·(a+ − a−)/d) elsewhere, and lies in −128..128; the raw position is the peak loop's centre plus
the offset and lies in 0..N·256. -/
def Obligations.RawPositionInRange : Prop :=
  ∀ (n : Nat) (p : PartResult), (p.origin = 0 ∧ p.amps.length = n ∧ 16 ≤ n)
      ∨ (p.amps.length = 9 ∧ p.origin + 9 ≤ n ∧ 16 ≤ n) →
    let k := (peakOf p.amps).1
    let a (i : Nat) : Int := (p.amps.getD i 0).toNat
    let off := (interpolate n p).raw - (256 * ((p.origin : Int) + (k : Int)) + 128)
    let windowLow := k = 0 ∧ p.origin ≠ 0
    let windowHigh := k + 1 = p.amps.length ∧ p.origin + p.amps.length ≠ n
    let am : Int := if windowLow then a 1 else if k = 0 then 0 else a (k - 1)
    let ap : Int := if windowHigh then a (k - 1) else if k + 1 = p.amps.length then 0 else a (k + 1)
    let d := 2 * a k - am - ap
    k < p.amps.length ∧ (∀ i, (p.amps.getD i 0).toNat ≤ (p.amps.getD k 0).toNat)
    ∧ (∀ i < k, (p.amps.getD i 0).toNat < (p.amps.getD k 0).toNat)
    ∧ 0 ≤ d ∧ (d = 0 → off = 0) ∧ (d ≠ 0 → off = (128 * (ap - am)).tdiv d)
    ∧ -128 ≤ off ∧ off ≤ 128
    ∧ 0 ≤ (interpolate n p).raw ∧ (interpolate n p).raw ≤ 256 * (n : Int)
    ∧ ((interpolate n p).edge = true ↔ windowLow ∨ windowHigh)
    ∧ ((interpolate n p).edge = true → off = 0)

/-- A computed record on a grid within its limits, under a profile that passed its checks, with T and R the raw tip and ring
positions of an axis: NO_TILT, tilt 0 and no bias where a ring peak is below prox_level/4; else the tilt is the arcsine of
D = R − T by the table, limited to 600, with TILT_LIMIT and D's sign, and the tip is pulled back by trunc(D·b/64); that
position is clamped, and with no map it is the record's, else corrected by the blend of the four corrections, the reads in the
order of log entry 30, and clamped again. In CONTACT the curve's value loads S at a first contact record and moves it by
trunc((value − S)/2^k) at another, and the pressure is S, at least 1; else the pressure is 0 and S stays. CLIP and the edge
flags are those of R44 and R45. Position, tilts, pressure and S lie in their ranges, whatever the node reads gave. -/
def Obligations.RecordValuesInRange : Prop :=
  ∀ (b : Board) (c : Context) (j : SolverJob) (noMap : Bool), Board.Valid b → j.profile.Valid →
    j.profile.rs.length = 9 → j.profile.ps.length = 9 → c.smooth ≤ 16383 →
    let r := (computedRecord b c j noMap).1
    let smooth := (computedRecord b c j noMap).2
    let p := j.profile
    let f := j.results
    let weak := f.ringX.peakAmp < p.prox / 4 ∨ f.ringY.peakAmp < p.prox / 4
    let table := [0, 36, 72, 108, 145, 182, 220, 259, 300, 342, 387, 434, 486, 543, 610, 696, 900]
    let lean (tip ring : AxisFix) : Nat :=
      let u := min 1024 ((ring.raw - tip.raw).natAbs * 1024 / p.s)
      let k := u / 64
      if k = 16 then 900 else table.getD k 0 + (table.getD (k + 1) 0 - table.getD k 0) * (u % 64) / 64
    let tilt (tip ring : AxisFix) : Int :=
      if weak then 0 else if 0 ≤ ring.raw - tip.raw then min 600 (lean tip ring) else -min 600 (lean tip ring)
    let inGrid (n : Nat) (v : Int) : Int := max 0 (min v (256 * n - 1))
    let biased (n : Nat) (tip ring : AxisFix) : Int :=
      inGrid n (if weak then tip.raw else tip.raw - ((ring.raw - tip.raw) * p.bias).tdiv 64)
    let tx := interpolate b.nx f.tipX
    let ty := interpolate b.ny f.tipY
    let rx := interpolate b.nx f.ringX
    let ry := interpolate b.ny f.ringY
    let x := biased b.nx tx rx
    let y := biased b.ny ty ry
    let blended (part : Correction → Int) : Int :=
      let v (n : Nat) : Int := part (j.got.getD n { cx := 0, cy := 0, bad := false })
      let fx := x % 1024
      let fy := y % 1024
      (v 0 * ((1024 - fx) * (1024 - fy)) + v 1 * (fx * (1024 - fy)) + v 2 * ((1024 - fx) * fy) + v 3 * (fx * fy)
        + 524288) / 1048576
    let v : Int := f.r.toNat
    let rs (i : Nat) : Int := p.rs.getD i 0
    let ps (i : Nat) : Int := p.ps.getD i 0
    let first := j.yield.event = .touch ∨ j.yield.event = .proxIn ∨ c.changed = true
    r.x < 256 * b.nx ∧ r.y < 256 * b.ny
    ∧ -600 ≤ r.tiltX ∧ r.tiltX ≤ 600 ∧ -600 ≤ r.tiltY ∧ r.tiltY ≤ 600
    ∧ r.pressure ≤ 16383 ∧ smooth ≤ 16383
    ∧ (r.flags.noTilt = true ↔ weak) ∧ r.tiltX = tilt tx rx ∧ r.tiltY = tilt ty ry
    ∧ (r.flags.tiltLimit = true ↔ ¬weak ∧ (600 < lean tx rx ∨ 600 < lean ty ry))
    ∧ (r.flags.clip = true ↔ f.tipX.peakAmp = 65535 ∨ f.tipY.peakAmp = 65535)
    ∧ (r.flags.edgeX = true ↔ tx.edge = true ∨ (¬weak ∧ rx.edge = true))
    ∧ (r.flags.edgeY = true ↔ ty.edge = true ∨ (¬weak ∧ ry.edge = true))
    ∧ (r.flags.noMap = true ↔ noMap = true) ∧ (noMap = true → (r.x : Int) = x ∧ (r.y : Int) = y)
    ∧ (noMap = false → (r.x : Int) = inGrid b.nx (x + blended (·.cx)) ∧ (r.y : Int) = inGrid b.ny (y + blended (·.cy)))
    ∧ (j.yield.state ≠ .contact → r.pressure = 0 ∧ smooth = c.smooth)
    ∧ (j.yield.state = .contact → r.pressure = max 1 smooth ∧ ∃ out : Nat,
      (v ≤ rs 0 → (out : Int) = ps 0) ∧ (rs 8 ≤ v → (out : Int) = ps 8)
      ∧ (∀ i < 8, rs i ≤ v → v < rs (i + 1) →
        (out : Int) = ps i + ((ps (i + 1) - ps i) * (v - rs i)).tdiv (rs (i + 1) - rs i))
      ∧ (first → smooth = out)
      ∧ (¬first → (smooth : Int) = (c.smooth : Int) + ((out : Int) - (c.smooth : Int)).tdiv (2 ^ p.k : Nat)))

/-- R66: a grant goes to the Executor or the scrubber only when passed over eight times, or with no Solver read waiting, the
Executor before the scrubber unless that one is due. A free port with a request waiting is granted at once: the granted
requester no longer waits and its count is 0, the count of another that waits rises by one, and one that does not wait keeps
its count; no count passes 9. A waiting Solver read is granted within two grants after the next, whatever requests are newly
placed meanwhile. -/
def Obligations.ArbiterBoundsWaits : Prop :=
  (∀ m : CorrectionMap, m.solverWaiting = true → m.choose ≠ some .solver →
    (m.choose = some .executor ∧ m.execWaiting = true ∧ 8 ≤ m.execPass)
    ∨ (m.choose = some .scrubber ∧ m.scrubWaiting = true ∧ 8 ≤ m.scrubPass))
  ∧ (∀ m : CorrectionMap, m.solverWaiting = false → m.execWaiting = true →
    (m.choose = some .executor ∨ (m.choose = some .scrubber ∧ m.scrubWaiting = true ∧ 8 ≤ m.scrubPass)))
  ∧ (∀ m : CorrectionMap, m.choose = none ↔ m.solverWaiting = false ∧ m.execWaiting = false ∧ m.scrubWaiting = false)
  ∧ (∀ d : Device, d.map.grant ≠ none ∨ d.map.choose = none → arbitrate d = d)
  ∧ (∀ (d : Device) (w : Requester), d.map.grant = none → d.map.choose = some w →
    let m := (arbitrate d).map
    (∃ g, m.grant = some g ∧ g.who = w)
    ∧ (m.solverWaiting = true ↔ d.map.solverWaiting = true ∧ w ≠ .solver)
    ∧ (m.execWaiting = true ↔ d.map.execWaiting = true ∧ w ≠ .executor)
    ∧ (m.scrubWaiting = true ↔ d.map.scrubWaiting = true ∧ w ≠ .scrubber)
    ∧ (w = .executor → m.execPass = 0) ∧ (w = .scrubber → m.scrubPass = 0)
    ∧ (w ≠ .executor → m.execPass = d.map.execPass + (if d.map.execWaiting then 1 else 0))
    ∧ (w ≠ .scrubber → m.scrubPass = d.map.scrubPass + (if d.map.scrubWaiting then 1 else 0))
    ∧ (d.map.PassOk → m.PassOk))
  ∧ ∀ (d1 d2 d3 : Device) (w1 w2 : Requester),
    let placed (m m' : CorrectionMap) : Prop := m'.solverWaiting = m.solverWaiting ∧ m'.execPass = m.execPass
      ∧ m'.scrubPass = m.scrubPass ∧ (m.execWaiting = true → m'.execWaiting = true)
      ∧ (m.scrubWaiting = true → m'.scrubWaiting = true)
    d1.map.solverWaiting = true → d1.map.choose = some w1 → w1 ≠ .solver → placed (grantTo w1 d1).map d2.map →
    d2.map.choose = some w2 → w2 ≠ .solver → placed (grantTo w2 d2).map d3.map → d3.map.choose = some .solver

/-- R110: producing a record keeps its channel's account, produced less delivered, lost and held, and the other channel's,
whether it is placed, held, discarded or another is evicted for it; so does a drain walk. -/
def Obligations.RecordAccountIsKept : Prop :=
  ∀ (d : Device) (r : Record) (ch : Channel),
    (deliver r (countProduced r.ch d)).balance ch = d.balance ch ∧ (drainWalk d).balance ch = d.balance ch

/-- At a Holding Queue of 64 (R102 to R105): a plain hover record is discarded, with its channel's gap pending set; a marked
record evicts the oldest plain hover record, or with none held the oldest record, GAP moves to the next held record of the
evicted one's channel, or with none to that channel's gap pending, and the record joins the newest end carrying its channel's
gap pending. The loss is counted and HOLD is set. -/
def Obligations.FullQueueLosesPlainHoverFirst : Prop :=
  ∀ (d : Device) (r : Record), d.delivery.holding.length = 64 →
    let gapped (y : Record) : Record := { y with flags := { y.flags with gap := true } }
    let plain (y : Record) : Prop := y.state = .hover ∧ y.event = .none
    let t := appendHolding r d
    (plain r → t.delivery = d.delivery ∧ (t.ctx r.ch).gap = true
      ∧ t.counters.lost.get r.ch = d.counters.lost.get r.ch + 1 ∧ t.regs.event = d.regs.event ||| 8)
    ∧ ∀ before e after, ¬plain r → d.delivery.holding = before ++ e :: after →
      (plain e ∧ (∀ y ∈ before, ¬plain y)) ∨ (before = [] ∧ ∀ y ∈ d.delivery.holding, ¬plain y) →
      t.counters.lost.get e.ch = d.counters.lost.get e.ch + 1 ∧ t.regs.event = d.regs.event ||| 8
      ∧ (t.ctx r.ch).gap = false
      ∧ (∀ mid x last, after = mid ++ x :: last → (∀ y ∈ mid, y.ch ≠ e.ch) → x.ch = e.ch →
        let joined := if (d.ctx r.ch).gap then gapped r else r
        t.delivery = { d.delivery with holding := before ++ mid ++ gapped x :: last ++ [joined] }
        ∧ ∀ ch, ch ≠ r.ch → t.ctx ch = d.ctx ch)
      ∧ ((∀ y ∈ after, y.ch ≠ e.ch) →
        let joined := if (d.ctx r.ch).gap = true ∨ e.ch = r.ch then gapped r else r
        t.delivery = { d.delivery with holding := before ++ after ++ [joined] }
        ∧ (e.ch ≠ r.ch → (t.ctx e.ch).gap = true))

/-- The images the part writes: TAKEN and DONE are 4 bytes at the strip word, the result 24 bytes at the body's offset 40 with
status and detail first, a record's 32 bytes hold every field at its offset and every flag at its bit, and a trace frame's 96
bytes its fields and its four groups of nine amplitudes at theirs. -/
def Obligations.WrittenImages : Prop :=
  (∀ (m : SlotMark) (st : Status) (dt : Detail) (fields : List Byte),
    (takenWrite m).data = [2, m.kind, 0, 0] ∧ (takenWrite m).addr = m.base + BitVec.ofNat 64 (4 * m.slot.val)
    ∧ (doneWrite m).data = [3, m.kind, 0, 0] ∧ (doneWrite m).addr = m.base + BitVec.ofNat 64 (4 * m.slot.val)
    ∧ (resultWrite m st dt fields).addr = m.base + BitVec.ofNat 64 (128 + 64 * m.slot.val + 40)
    ∧ (resultWrite m st dt fields).data.length = 24
    ∧ (resultWrite m st dt fields).data.take 4 = [BitVec.ofNat 8 st.code, BitVec.ofNat 8 dt.code, 0, 0]
    ∧ (fields.length ≤ 20 → (resultWrite m st dt fields).data.drop 4
      = fields ++ List.replicate (20 - fields.length) 0))
  ∧ (∀ r : Record, r.x < 65536 → r.y < 65536 → r.pressure < 65536 → -600 ≤ r.tiltX → r.tiltX ≤ 600 →
    -600 ≤ r.tiltY → r.tiltY ≤ 600 →
    let f (offset n : Nat) : Nat := leValue ((r.image.drop offset).take n)
    let flag (n : Nat) : Prop := f 4 2 / 2 ^ n % 2 = 1
    r.image.length = 32 ∧ f 0 1 = (if r.ch = .a then 0 else 1) ∧ f 3 1 = 0
    ∧ [RecState.none, .hover, .contact][f 1 1]? = some r.state
    ∧ [RecEvent.none, .proxIn, .touch, .lift, .proxOut][f 2 1]? = some r.event
    ∧ f 6 2 = r.stroke.toNat ∧ f 8 4 = r.timeTag.toNat ∧ f 12 2 = r.x ∧ f 14 2 = r.y ∧ f 16 2 = r.pressure
    ∧ (BitVec.ofNat 16 (f 18 2)).toInt = r.tiltX ∧ (BitVec.ofNat 16 (f 20 2)).toInt = r.tiltY
    ∧ f 22 2 = r.tool.toNat ∧ f 24 2 = r.seq.toNat ∧ f 26 2 = r.phase.toNat ∧ f 28 4 = 0
    ∧ (flag 0 ↔ r.flags.gap = true) ∧ (flag 1 ↔ r.flags.slip = true) ∧ (flag 2 ↔ r.flags.edgeX = true)
    ∧ (flag 3 ↔ r.flags.edgeY = true) ∧ (flag 4 ↔ r.flags.clip = true) ∧ (flag 5 ↔ r.flags.mapFault = true)
    ∧ (flag 6 ↔ r.flags.noMap = true) ∧ (flag 7 ↔ r.flags.tiltLimit = true) ∧ (flag 8 ↔ r.flags.noTilt = true)
    ∧ (flag 9 ↔ r.flags.toolPending = true) ∧ (flag 10 ↔ r.flags.toolUnlisted = true)
    ∧ (flag 11 ↔ r.flags.toolFailed = true) ∧ (flag 12 ↔ r.flags.bridged = true)
    ∧ (flag 13 ↔ r.flags.strokeEnd = true) ∧ (flag 14 ↔ r.flags.profileChanged = true) ∧ f 4 2 / 2 ^ 15 = 0)
  ∧ ∀ t : TraceFrame, t.tipX.origin < 256 → t.tipY.origin < 256 → t.ringX.origin < 256 → t.ringY.origin < 256 →
    t.tipX.amps.length = 9 → t.tipY.amps.length = 9 → t.ringX.amps.length = 9 → t.ringY.amps.length = 9 →
    let f (offset n : Nat) : Nat := leValue ((t.image.drop offset).take n)
    let group (offset : Nat) (p : PartResult) : Prop := ∀ k < 9, f (offset + 2 * k) 2 = (p.amps.getD k 0).toNat
    t.image.length = 96 ∧ f 0 4 = t.timeTag.toNat ∧ f 4 1 = (if t.ch = .a then 0 else 1)
    ∧ (f 5 1 = 1 ↔ t.state = .search) ∧ (f 5 1 = 2 ↔ t.state = .hover) ∧ (f 5 1 = 3 ↔ t.state = .contact)
    ∧ (f 5 1 = 4 ↔ t.state = .coast) ∧ f 6 1 = (if t.pre then 1 else 0) + (if t.trigger then 2 else 0)
    ∧ (∀ d, t.symbol = .digit d → f 7 1 = d.val) ∧ (t.symbol = .mark → f 7 1 = 4) ∧ (t.symbol = .none → f 7 1 = 5)
    ∧ f 8 2 = t.r.toNat ∧ f 10 1 = t.tipX.origin ∧ f 11 1 = t.tipY.origin ∧ f 12 1 = t.ringX.origin
    ∧ f 13 1 = t.ringY.origin ∧ f 14 10 = 0
    ∧ group 24 t.tipX ∧ group 42 t.tipY ∧ group 60 t.ringX ∧ group 78 t.ringY

/-! ### Invariants that every step keeps -/

/-- The canonical form of the node memory: indices strictly rising and below 1024, and no listed node equal to (0, 0) with a
valid code (R61). -/
def Obligations.NodesStayCanonical : Prop :=
  ∀ s t : State, Sys2Proof.Machine.step s = .next t → NodeMem.wf s.dev.map.nodes = true →
    NodeMem.wf t.dev.map.nodes = true

/-- The Posted Write Buffer never holds more than 4 writes, the Holding Queue never more than 64 records, the Capture Queue
never more than 16 captures, each with room left, and the Profile Table never more than 8 entries (R81, R101, R114, R161). -/
def Obligations.QueuesStayBounded : Prop :=
  ∀ s t : State, Sys2Proof.Machine.step s = .next t → s.dev.Bounded → t.dev.Bounded

/-- While HALTED there is no read in flight or waiting, no sweep, no prompt pending, no post of the Executor and no trace
(R169). -/
def Obligations.HaltedStaysQuiet : Prop :=
  ∀ s t : State, Sys2Proof.Machine.step s = .next t → s.dev.QuietWhenHalted → t.dev.QuietWhenHalted

/-- State.reset meets the three invariants, and holds the values every reset leaves and those of the power-on tables. Its
board word and link inputs are the model's choice (log entry 4). -/
def Obligations.ResetMeetsInvariants : Prop :=
  State.reset.pending = [] ∧ State.reset.dev.AfterReset ∧ Board.Valid State.reset.dev.board
  ∧ NodeMem.wf State.reset.dev.map.nodes = true ∧ State.reset.dev.Bounded ∧ State.reset.dev.QuietWhenHalted
  ∧ State.reset.dev.map.PassOk ∧ State.reset.dev.map.state = .absent ∧ State.reset.dev.clock = 0
  ∧ State.reset.dev.regs.tableBase = 0 ∧ State.reset.dev.profiles.default.Valid
  ∧ State.reset.dev.scan.rate = .fps480 ∧ State.reset.dev.scan.enables = { a := true, b := false }
  ∧ State.reset.dev.scan.divisor = 1
end

