-- ==== Sys2Proof/Laws/State.lean ====
section
/-!
SUPPORT. Field by field, what each named update of the part leaves as it was, true by rfl, so that no later proof unfolds a
record update.
-/
namespace Sys2Proof.Machine

open Sys2Proof

@[simp] theorem onDevice_dev (f : Device → Device) (s : State) : (onDevice f s).dev = f s.dev := rfl
@[simp] theorem onDevice_pending (f : Device → Device) (s : State) : (onDevice f s).pending = s.pending := rfl
theorem effect_eq (f : Device → Device) (s : State) : effect f s = .next (onDevice f s) := rfl

@[simp] theorem Device_setCtx_board (ch : Channel) (c : Context) (d : Device) : (d.setCtx ch c).board = d.board := rfl
@[simp] theorem Device_setCtx_scan (ch : Channel) (c : Context) (d : Device) : (d.setCtx ch c).scan = d.scan := rfl
@[simp] theorem Device_setCtx_map (ch : Channel) (c : Context) (d : Device) : (d.setCtx ch c).map = d.map := rfl
@[simp] theorem Device_setCtx_profiles (ch : Channel) (c : Context) (d : Device) : (d.setCtx ch c).profiles = d.profiles := rfl
@[simp] theorem Device_setCtx_delivery (ch : Channel) (c : Context) (d : Device) : (d.setCtx ch c).delivery = d.delivery := rfl
@[simp] theorem Device_setCtx_intake (ch : Channel) (c : Context) (d : Device) : (d.setCtx ch c).intake = d.intake := rfl
@[simp] theorem Device_setCtx_exec (ch : Channel) (c : Context) (d : Device) : (d.setCtx ch c).exec = d.exec := rfl
@[simp] theorem Device_setCtx_trace (ch : Channel) (c : Context) (d : Device) : (d.setCtx ch c).trace = d.trace := rfl
@[simp] theorem Device_setCtx_link (ch : Channel) (c : Context) (d : Device) : (d.setCtx ch c).link = d.link := rfl
@[simp] theorem Device_setCtx_regs (ch : Channel) (c : Context) (d : Device) : (d.setCtx ch c).regs = d.regs := rfl
@[simp] theorem Device_setCtx_clock (ch : Channel) (c : Context) (d : Device) : (d.setCtx ch c).clock = d.clock := rfl
@[simp] theorem Device_setCtx_counters (ch : Channel) (c : Context) (d : Device) : (d.setCtx ch c).counters = d.counters := rfl

@[simp] theorem setGap_board (ch : Channel) (v : Bool) (d : Device) : (setGap ch v d).board = d.board := rfl
@[simp] theorem setGap_scan (ch : Channel) (v : Bool) (d : Device) : (setGap ch v d).scan = d.scan := rfl
@[simp] theorem setGap_map (ch : Channel) (v : Bool) (d : Device) : (setGap ch v d).map = d.map := rfl
@[simp] theorem setGap_profiles (ch : Channel) (v : Bool) (d : Device) : (setGap ch v d).profiles = d.profiles := rfl
@[simp] theorem setGap_delivery (ch : Channel) (v : Bool) (d : Device) : (setGap ch v d).delivery = d.delivery := rfl
@[simp] theorem setGap_intake (ch : Channel) (v : Bool) (d : Device) : (setGap ch v d).intake = d.intake := rfl
@[simp] theorem setGap_exec (ch : Channel) (v : Bool) (d : Device) : (setGap ch v d).exec = d.exec := rfl
@[simp] theorem setGap_trace (ch : Channel) (v : Bool) (d : Device) : (setGap ch v d).trace = d.trace := rfl
@[simp] theorem setGap_link (ch : Channel) (v : Bool) (d : Device) : (setGap ch v d).link = d.link := rfl
@[simp] theorem setGap_regs (ch : Channel) (v : Bool) (d : Device) : (setGap ch v d).regs = d.regs := rfl
@[simp] theorem setGap_clock (ch : Channel) (v : Bool) (d : Device) : (setGap ch v d).clock = d.clock := rfl
@[simp] theorem setGap_counters (ch : Channel) (v : Bool) (d : Device) : (setGap ch v d).counters = d.counters := rfl

@[simp] theorem setMark_board (m : SlotMark) (d : Device) : (setMark m d).board = d.board := rfl
@[simp] theorem setMark_scan (m : SlotMark) (d : Device) : (setMark m d).scan = d.scan := rfl
@[simp] theorem setMark_chans (m : SlotMark) (d : Device) : (setMark m d).chans = d.chans := rfl
@[simp] theorem setMark_map (m : SlotMark) (d : Device) : (setMark m d).map = d.map := rfl
@[simp] theorem setMark_profiles (m : SlotMark) (d : Device) : (setMark m d).profiles = d.profiles := rfl
@[simp] theorem setMark_delivery (m : SlotMark) (d : Device) : (setMark m d).delivery = d.delivery := rfl
@[simp] theorem setMark_exec (m : SlotMark) (d : Device) : (setMark m d).exec = d.exec := rfl
@[simp] theorem setMark_trace (m : SlotMark) (d : Device) : (setMark m d).trace = d.trace := rfl
@[simp] theorem setMark_link (m : SlotMark) (d : Device) : (setMark m d).link = d.link := rfl
@[simp] theorem setMark_regs (m : SlotMark) (d : Device) : (setMark m d).regs = d.regs := rfl
@[simp] theorem setMark_clock (m : SlotMark) (d : Device) : (setMark m d).clock = d.clock := rfl
@[simp] theorem setMark_counters (m : SlotMark) (d : Device) : (setMark m d).counters = d.counters := rfl

@[simp] theorem clearMark_board (slot : Fin 32) (d : Device) : (clearMark slot d).board = d.board := rfl
@[simp] theorem clearMark_scan (slot : Fin 32) (d : Device) : (clearMark slot d).scan = d.scan := rfl
@[simp] theorem clearMark_chans (slot : Fin 32) (d : Device) : (clearMark slot d).chans = d.chans := rfl
@[simp] theorem clearMark_map (slot : Fin 32) (d : Device) : (clearMark slot d).map = d.map := rfl
@[simp] theorem clearMark_profiles (slot : Fin 32) (d : Device) : (clearMark slot d).profiles = d.profiles := rfl
@[simp] theorem clearMark_delivery (slot : Fin 32) (d : Device) : (clearMark slot d).delivery = d.delivery := rfl
@[simp] theorem clearMark_exec (slot : Fin 32) (d : Device) : (clearMark slot d).exec = d.exec := rfl
@[simp] theorem clearMark_trace (slot : Fin 32) (d : Device) : (clearMark slot d).trace = d.trace := rfl
@[simp] theorem clearMark_link (slot : Fin 32) (d : Device) : (clearMark slot d).link = d.link := rfl
@[simp] theorem clearMark_regs (slot : Fin 32) (d : Device) : (clearMark slot d).regs = d.regs := rfl
@[simp] theorem clearMark_clock (slot : Fin 32) (d : Device) : (clearMark slot d).clock = d.clock := rfl
@[simp] theorem clearMark_counters (slot : Fin 32) (d : Device) : (clearMark slot d).counters = d.counters := rfl

@[simp] theorem setRotation_board (slot : Fin 32) (d : Device) : (setRotation slot d).board = d.board := rfl
@[simp] theorem setRotation_scan (slot : Fin 32) (d : Device) : (setRotation slot d).scan = d.scan := rfl
@[simp] theorem setRotation_chans (slot : Fin 32) (d : Device) : (setRotation slot d).chans = d.chans := rfl
@[simp] theorem setRotation_map (slot : Fin 32) (d : Device) : (setRotation slot d).map = d.map := rfl
@[simp] theorem setRotation_profiles (slot : Fin 32) (d : Device) : (setRotation slot d).profiles = d.profiles := rfl
@[simp] theorem setRotation_delivery (slot : Fin 32) (d : Device) : (setRotation slot d).delivery = d.delivery := rfl
@[simp] theorem setRotation_exec (slot : Fin 32) (d : Device) : (setRotation slot d).exec = d.exec := rfl
@[simp] theorem setRotation_trace (slot : Fin 32) (d : Device) : (setRotation slot d).trace = d.trace := rfl
@[simp] theorem setRotation_link (slot : Fin 32) (d : Device) : (setRotation slot d).link = d.link := rfl
@[simp] theorem setRotation_regs (slot : Fin 32) (d : Device) : (setRotation slot d).regs = d.regs := rfl
@[simp] theorem setRotation_clock (slot : Fin 32) (d : Device) : (setRotation slot d).clock = d.clock := rfl
@[simp] theorem setRotation_counters (slot : Fin 32) (d : Device) : (setRotation slot d).counters = d.counters := rfl

@[simp] theorem setSweep_board (sw : Option Sweep) (d : Device) : (setSweep sw d).board = d.board := rfl
@[simp] theorem setSweep_scan (sw : Option Sweep) (d : Device) : (setSweep sw d).scan = d.scan := rfl
@[simp] theorem setSweep_chans (sw : Option Sweep) (d : Device) : (setSweep sw d).chans = d.chans := rfl
@[simp] theorem setSweep_map (sw : Option Sweep) (d : Device) : (setSweep sw d).map = d.map := rfl
@[simp] theorem setSweep_profiles (sw : Option Sweep) (d : Device) : (setSweep sw d).profiles = d.profiles := rfl
@[simp] theorem setSweep_delivery (sw : Option Sweep) (d : Device) : (setSweep sw d).delivery = d.delivery := rfl
@[simp] theorem setSweep_exec (sw : Option Sweep) (d : Device) : (setSweep sw d).exec = d.exec := rfl
@[simp] theorem setSweep_trace (sw : Option Sweep) (d : Device) : (setSweep sw d).trace = d.trace := rfl
@[simp] theorem setSweep_link (sw : Option Sweep) (d : Device) : (setSweep sw d).link = d.link := rfl
@[simp] theorem setSweep_regs (sw : Option Sweep) (d : Device) : (setSweep sw d).regs = d.regs := rfl
@[simp] theorem setSweep_clock (sw : Option Sweep) (d : Device) : (setSweep sw d).clock = d.clock := rfl
@[simp] theorem setSweep_counters (sw : Option Sweep) (d : Device) : (setSweep sw d).counters = d.counters := rfl

@[simp] theorem faultSweep_board (d : Device) : (faultSweep d).board = d.board := rfl
@[simp] theorem faultSweep_scan (d : Device) : (faultSweep d).scan = d.scan := rfl
@[simp] theorem faultSweep_chans (d : Device) : (faultSweep d).chans = d.chans := rfl
@[simp] theorem faultSweep_map (d : Device) : (faultSweep d).map = d.map := rfl
@[simp] theorem faultSweep_profiles (d : Device) : (faultSweep d).profiles = d.profiles := rfl
@[simp] theorem faultSweep_delivery (d : Device) : (faultSweep d).delivery = d.delivery := rfl
@[simp] theorem faultSweep_exec (d : Device) : (faultSweep d).exec = d.exec := rfl
@[simp] theorem faultSweep_trace (d : Device) : (faultSweep d).trace = d.trace := rfl
@[simp] theorem faultSweep_link (d : Device) : (faultSweep d).link = d.link := rfl
@[simp] theorem faultSweep_regs (d : Device) : (faultSweep d).regs = d.regs := rfl
@[simp] theorem faultSweep_clock (d : Device) : (faultSweep d).clock = d.clock := rfl
@[simp] theorem faultSweep_counters (d : Device) : (faultSweep d).counters = d.counters := rfl

@[simp] theorem handOver_board (ws : List HostWrite) (d : Device) : (handOver ws d).board = d.board := rfl
@[simp] theorem handOver_scan (ws : List HostWrite) (d : Device) : (handOver ws d).scan = d.scan := rfl
@[simp] theorem handOver_chans (ws : List HostWrite) (d : Device) : (handOver ws d).chans = d.chans := rfl
@[simp] theorem handOver_map (ws : List HostWrite) (d : Device) : (handOver ws d).map = d.map := rfl
@[simp] theorem handOver_profiles (ws : List HostWrite) (d : Device) : (handOver ws d).profiles = d.profiles := rfl
@[simp] theorem handOver_delivery (ws : List HostWrite) (d : Device) : (handOver ws d).delivery = d.delivery := rfl
@[simp] theorem handOver_intake (ws : List HostWrite) (d : Device) : (handOver ws d).intake = d.intake := rfl
@[simp] theorem handOver_exec (ws : List HostWrite) (d : Device) : (handOver ws d).exec = d.exec := rfl
@[simp] theorem handOver_trace (ws : List HostWrite) (d : Device) : (handOver ws d).trace = d.trace := rfl
@[simp] theorem handOver_regs (ws : List HostWrite) (d : Device) : (handOver ws d).regs = d.regs := rfl
@[simp] theorem handOver_clock (ws : List HostWrite) (d : Device) : (handOver ws d).clock = d.clock := rfl
@[simp] theorem handOver_counters (ws : List HostWrite) (d : Device) : (handOver ws d).counters = d.counters := rfl

@[simp] theorem completeSlot_board (slot : Fin 32) (st : Status) (dt : Detail) (fs : List Byte) (d : Device) : (completeSlot slot st dt fs d).board = d.board := rfl
@[simp] theorem completeSlot_scan (slot : Fin 32) (st : Status) (dt : Detail) (fs : List Byte) (d : Device) : (completeSlot slot st dt fs d).scan = d.scan := rfl
@[simp] theorem completeSlot_chans (slot : Fin 32) (st : Status) (dt : Detail) (fs : List Byte) (d : Device) : (completeSlot slot st dt fs d).chans = d.chans := rfl
@[simp] theorem completeSlot_map (slot : Fin 32) (st : Status) (dt : Detail) (fs : List Byte) (d : Device) : (completeSlot slot st dt fs d).map = d.map := rfl
@[simp] theorem completeSlot_profiles (slot : Fin 32) (st : Status) (dt : Detail) (fs : List Byte) (d : Device) : (completeSlot slot st dt fs d).profiles = d.profiles := rfl
@[simp] theorem completeSlot_delivery (slot : Fin 32) (st : Status) (dt : Detail) (fs : List Byte) (d : Device) : (completeSlot slot st dt fs d).delivery = d.delivery := rfl
@[simp] theorem completeSlot_intake (slot : Fin 32) (st : Status) (dt : Detail) (fs : List Byte) (d : Device) : (completeSlot slot st dt fs d).intake = d.intake := rfl
@[simp] theorem completeSlot_exec (slot : Fin 32) (st : Status) (dt : Detail) (fs : List Byte) (d : Device) : (completeSlot slot st dt fs d).exec = d.exec := rfl
@[simp] theorem completeSlot_trace (slot : Fin 32) (st : Status) (dt : Detail) (fs : List Byte) (d : Device) : (completeSlot slot st dt fs d).trace = d.trace := rfl
@[simp] theorem completeSlot_regs (slot : Fin 32) (st : Status) (dt : Detail) (fs : List Byte) (d : Device) : (completeSlot slot st dt fs d).regs = d.regs := rfl
@[simp] theorem completeSlot_clock (slot : Fin 32) (st : Status) (dt : Detail) (fs : List Byte) (d : Device) : (completeSlot slot st dt fs d).clock = d.clock := rfl
@[simp] theorem completeSlot_counters (slot : Fin 32) (st : Status) (dt : Detail) (fs : List Byte) (d : Device) : (completeSlot slot st dt fs d).counters = d.counters := rfl

@[simp] theorem enterBuffer_board (w : HostWrite) (d : Device) : (enterBuffer w d).board = d.board := rfl
@[simp] theorem enterBuffer_scan (w : HostWrite) (d : Device) : (enterBuffer w d).scan = d.scan := rfl
@[simp] theorem enterBuffer_chans (w : HostWrite) (d : Device) : (enterBuffer w d).chans = d.chans := rfl
@[simp] theorem enterBuffer_map (w : HostWrite) (d : Device) : (enterBuffer w d).map = d.map := rfl
@[simp] theorem enterBuffer_profiles (w : HostWrite) (d : Device) : (enterBuffer w d).profiles = d.profiles := rfl
@[simp] theorem enterBuffer_delivery (w : HostWrite) (d : Device) : (enterBuffer w d).delivery = d.delivery := rfl
@[simp] theorem enterBuffer_intake (w : HostWrite) (d : Device) : (enterBuffer w d).intake = d.intake := rfl
@[simp] theorem enterBuffer_exec (w : HostWrite) (d : Device) : (enterBuffer w d).exec = d.exec := rfl
@[simp] theorem enterBuffer_trace (w : HostWrite) (d : Device) : (enterBuffer w d).trace = d.trace := rfl
@[simp] theorem enterBuffer_regs (w : HostWrite) (d : Device) : (enterBuffer w d).regs = d.regs := rfl
@[simp] theorem enterBuffer_clock (w : HostWrite) (d : Device) : (enterBuffer w d).clock = d.clock := rfl
@[simp] theorem enterBuffer_counters (w : HostWrite) (d : Device) : (enterBuffer w d).counters = d.counters := rfl

@[simp] theorem endRead_board (d : Device) : (endRead d).board = d.board := rfl
@[simp] theorem endRead_scan (d : Device) : (endRead d).scan = d.scan := rfl
@[simp] theorem endRead_chans (d : Device) : (endRead d).chans = d.chans := rfl
@[simp] theorem endRead_map (d : Device) : (endRead d).map = d.map := rfl
@[simp] theorem endRead_profiles (d : Device) : (endRead d).profiles = d.profiles := rfl
@[simp] theorem endRead_delivery (d : Device) : (endRead d).delivery = d.delivery := rfl
@[simp] theorem endRead_intake (d : Device) : (endRead d).intake = d.intake := rfl
@[simp] theorem endRead_exec (d : Device) : (endRead d).exec = d.exec := rfl
@[simp] theorem endRead_trace (d : Device) : (endRead d).trace = d.trace := rfl
@[simp] theorem endRead_regs (d : Device) : (endRead d).regs = d.regs := rfl
@[simp] theorem endRead_clock (d : Device) : (endRead d).clock = d.clock := rfl
@[simp] theorem endRead_counters (d : Device) : (endRead d).counters = d.counters := rfl

@[simp] theorem popHead_board (w : HostWrite) (rest : List HostWrite) (d : Device) : (popHead w rest d).board = d.board := rfl
@[simp] theorem popHead_scan (w : HostWrite) (rest : List HostWrite) (d : Device) : (popHead w rest d).scan = d.scan := rfl
@[simp] theorem popHead_chans (w : HostWrite) (rest : List HostWrite) (d : Device) : (popHead w rest d).chans = d.chans := rfl
@[simp] theorem popHead_map (w : HostWrite) (rest : List HostWrite) (d : Device) : (popHead w rest d).map = d.map := rfl
@[simp] theorem popHead_profiles (w : HostWrite) (rest : List HostWrite) (d : Device) : (popHead w rest d).profiles = d.profiles := rfl
@[simp] theorem popHead_delivery (w : HostWrite) (rest : List HostWrite) (d : Device) : (popHead w rest d).delivery = d.delivery := rfl
@[simp] theorem popHead_intake (w : HostWrite) (rest : List HostWrite) (d : Device) : (popHead w rest d).intake = d.intake := rfl
@[simp] theorem popHead_exec (w : HostWrite) (rest : List HostWrite) (d : Device) : (popHead w rest d).exec = d.exec := rfl
@[simp] theorem popHead_trace (w : HostWrite) (rest : List HostWrite) (d : Device) : (popHead w rest d).trace = d.trace := rfl
@[simp] theorem popHead_regs (w : HostWrite) (rest : List HostWrite) (d : Device) : (popHead w rest d).regs = d.regs := rfl
@[simp] theorem popHead_clock (w : HostWrite) (rest : List HostWrite) (d : Device) : (popHead w rest d).clock = d.clock := rfl
@[simp] theorem popHead_counters (w : HostWrite) (rest : List HostWrite) (d : Device) : (popHead w rest d).counters = d.counters := rfl

@[simp] theorem setLinkState_board (up : Bool) (d : Device) : (setLinkState up d).board = d.board := rfl
@[simp] theorem setLinkState_scan (up : Bool) (d : Device) : (setLinkState up d).scan = d.scan := rfl
@[simp] theorem setLinkState_chans (up : Bool) (d : Device) : (setLinkState up d).chans = d.chans := rfl
@[simp] theorem setLinkState_map (up : Bool) (d : Device) : (setLinkState up d).map = d.map := rfl
@[simp] theorem setLinkState_profiles (up : Bool) (d : Device) : (setLinkState up d).profiles = d.profiles := rfl
@[simp] theorem setLinkState_delivery (up : Bool) (d : Device) : (setLinkState up d).delivery = d.delivery := rfl
@[simp] theorem setLinkState_intake (up : Bool) (d : Device) : (setLinkState up d).intake = d.intake := rfl
@[simp] theorem setLinkState_exec (up : Bool) (d : Device) : (setLinkState up d).exec = d.exec := rfl
@[simp] theorem setLinkState_trace (up : Bool) (d : Device) : (setLinkState up d).trace = d.trace := rfl
@[simp] theorem setLinkState_regs (up : Bool) (d : Device) : (setLinkState up d).regs = d.regs := rfl
@[simp] theorem setLinkState_clock (up : Bool) (d : Device) : (setLinkState up d).clock = d.clock := rfl
@[simp] theorem setLinkState_counters (up : Bool) (d : Device) : (setLinkState up d).counters = d.counters := rfl

@[simp] theorem faultClear_board (d : Device) : (faultClear d).board = d.board := rfl
@[simp] theorem faultClear_scan (d : Device) : (faultClear d).scan = d.scan := rfl
@[simp] theorem faultClear_chans (d : Device) : (faultClear d).chans = d.chans := rfl
@[simp] theorem faultClear_map (d : Device) : (faultClear d).map = d.map := rfl
@[simp] theorem faultClear_profiles (d : Device) : (faultClear d).profiles = d.profiles := rfl
@[simp] theorem faultClear_delivery (d : Device) : (faultClear d).delivery = d.delivery := rfl
@[simp] theorem faultClear_intake (d : Device) : (faultClear d).intake = d.intake := rfl
@[simp] theorem faultClear_exec (d : Device) : (faultClear d).exec = d.exec := rfl
@[simp] theorem faultClear_trace (d : Device) : (faultClear d).trace = d.trace := rfl
@[simp] theorem faultClear_regs (d : Device) : (faultClear d).regs = d.regs := rfl
@[simp] theorem faultClear_clock (d : Device) : (faultClear d).clock = d.clock := rfl
@[simp] theorem faultClear_counters (d : Device) : (faultClear d).counters = d.counters := rfl

@[simp] theorem setHolding_board (q : List Record) (d : Device) : (setHolding q d).board = d.board := rfl
@[simp] theorem setHolding_scan (q : List Record) (d : Device) : (setHolding q d).scan = d.scan := rfl
@[simp] theorem setHolding_chans (q : List Record) (d : Device) : (setHolding q d).chans = d.chans := rfl
@[simp] theorem setHolding_map (q : List Record) (d : Device) : (setHolding q d).map = d.map := rfl
@[simp] theorem setHolding_profiles (q : List Record) (d : Device) : (setHolding q d).profiles = d.profiles := rfl
@[simp] theorem setHolding_intake (q : List Record) (d : Device) : (setHolding q d).intake = d.intake := rfl
@[simp] theorem setHolding_exec (q : List Record) (d : Device) : (setHolding q d).exec = d.exec := rfl
@[simp] theorem setHolding_trace (q : List Record) (d : Device) : (setHolding q d).trace = d.trace := rfl
@[simp] theorem setHolding_link (q : List Record) (d : Device) : (setHolding q d).link = d.link := rfl
@[simp] theorem setHolding_regs (q : List Record) (d : Device) : (setHolding q d).regs = d.regs := rfl
@[simp] theorem setHolding_clock (q : List Record) (d : Device) : (setHolding q d).clock = d.clock := rfl
@[simp] theorem setHolding_counters (q : List Record) (d : Device) : (setHolding q d).counters = d.counters := rfl

@[simp] theorem putCapture_board (c : Capture) (d : Device) : (putCapture c d).board = d.board := rfl
@[simp] theorem putCapture_scan (c : Capture) (d : Device) : (putCapture c d).scan = d.scan := rfl
@[simp] theorem putCapture_chans (c : Capture) (d : Device) : (putCapture c d).chans = d.chans := rfl
@[simp] theorem putCapture_map (c : Capture) (d : Device) : (putCapture c d).map = d.map := rfl
@[simp] theorem putCapture_profiles (c : Capture) (d : Device) : (putCapture c d).profiles = d.profiles := rfl
@[simp] theorem putCapture_intake (c : Capture) (d : Device) : (putCapture c d).intake = d.intake := rfl
@[simp] theorem putCapture_exec (c : Capture) (d : Device) : (putCapture c d).exec = d.exec := rfl
@[simp] theorem putCapture_trace (c : Capture) (d : Device) : (putCapture c d).trace = d.trace := rfl
@[simp] theorem putCapture_link (c : Capture) (d : Device) : (putCapture c d).link = d.link := rfl
@[simp] theorem putCapture_regs (c : Capture) (d : Device) : (putCapture c d).regs = d.regs := rfl
@[simp] theorem putCapture_clock (c : Capture) (d : Device) : (putCapture c d).clock = d.clock := rfl
@[simp] theorem putCapture_counters (c : Capture) (d : Device) : (putCapture c d).counters = d.counters := rfl

@[simp] theorem completeCapture_board (c : Capture) (r : Reason) (d : Device) : (completeCapture c r d).board = d.board := rfl
@[simp] theorem completeCapture_scan (c : Capture) (r : Reason) (d : Device) : (completeCapture c r d).scan = d.scan := rfl
@[simp] theorem completeCapture_chans (c : Capture) (r : Reason) (d : Device) : (completeCapture c r d).chans = d.chans := rfl
@[simp] theorem completeCapture_map (c : Capture) (r : Reason) (d : Device) : (completeCapture c r d).map = d.map := rfl
@[simp] theorem completeCapture_profiles (c : Capture) (r : Reason) (d : Device) : (completeCapture c r d).profiles = d.profiles := rfl
@[simp] theorem completeCapture_intake (c : Capture) (r : Reason) (d : Device) : (completeCapture c r d).intake = d.intake := rfl
@[simp] theorem completeCapture_exec (c : Capture) (r : Reason) (d : Device) : (completeCapture c r d).exec = d.exec := rfl
@[simp] theorem completeCapture_trace (c : Capture) (r : Reason) (d : Device) : (completeCapture c r d).trace = d.trace := rfl
@[simp] theorem completeCapture_regs (c : Capture) (r : Reason) (d : Device) : (completeCapture c r d).regs = d.regs := rfl
@[simp] theorem completeCapture_clock (c : Capture) (r : Reason) (d : Device) : (completeCapture c r d).clock = d.clock := rfl

@[simp] theorem countProduced_board (ch : Channel) (d : Device) : (countProduced ch d).board = d.board := rfl
@[simp] theorem countProduced_scan (ch : Channel) (d : Device) : (countProduced ch d).scan = d.scan := rfl
@[simp] theorem countProduced_chans (ch : Channel) (d : Device) : (countProduced ch d).chans = d.chans := rfl
@[simp] theorem countProduced_map (ch : Channel) (d : Device) : (countProduced ch d).map = d.map := rfl
@[simp] theorem countProduced_profiles (ch : Channel) (d : Device) : (countProduced ch d).profiles = d.profiles := rfl
@[simp] theorem countProduced_delivery (ch : Channel) (d : Device) : (countProduced ch d).delivery = d.delivery := rfl
@[simp] theorem countProduced_intake (ch : Channel) (d : Device) : (countProduced ch d).intake = d.intake := rfl
@[simp] theorem countProduced_exec (ch : Channel) (d : Device) : (countProduced ch d).exec = d.exec := rfl
@[simp] theorem countProduced_trace (ch : Channel) (d : Device) : (countProduced ch d).trace = d.trace := rfl
@[simp] theorem countProduced_link (ch : Channel) (d : Device) : (countProduced ch d).link = d.link := rfl
@[simp] theorem countProduced_regs (ch : Channel) (d : Device) : (countProduced ch d).regs = d.regs := rfl
@[simp] theorem countProduced_clock (ch : Channel) (d : Device) : (countProduced ch d).clock = d.clock := rfl

@[simp] theorem countDelivered_board (ch : Channel) (d : Device) : (countDelivered ch d).board = d.board := rfl
@[simp] theorem countDelivered_scan (ch : Channel) (d : Device) : (countDelivered ch d).scan = d.scan := rfl
@[simp] theorem countDelivered_chans (ch : Channel) (d : Device) : (countDelivered ch d).chans = d.chans := rfl
@[simp] theorem countDelivered_map (ch : Channel) (d : Device) : (countDelivered ch d).map = d.map := rfl
@[simp] theorem countDelivered_profiles (ch : Channel) (d : Device) : (countDelivered ch d).profiles = d.profiles := rfl
@[simp] theorem countDelivered_delivery (ch : Channel) (d : Device) : (countDelivered ch d).delivery = d.delivery := rfl
@[simp] theorem countDelivered_intake (ch : Channel) (d : Device) : (countDelivered ch d).intake = d.intake := rfl
@[simp] theorem countDelivered_exec (ch : Channel) (d : Device) : (countDelivered ch d).exec = d.exec := rfl
@[simp] theorem countDelivered_trace (ch : Channel) (d : Device) : (countDelivered ch d).trace = d.trace := rfl
@[simp] theorem countDelivered_link (ch : Channel) (d : Device) : (countDelivered ch d).link = d.link := rfl
@[simp] theorem countDelivered_regs (ch : Channel) (d : Device) : (countDelivered ch d).regs = d.regs := rfl
@[simp] theorem countDelivered_clock (ch : Channel) (d : Device) : (countDelivered ch d).clock = d.clock := rfl

@[simp] theorem countLost_board (ch : Channel) (d : Device) : (countLost ch d).board = d.board := rfl
@[simp] theorem countLost_scan (ch : Channel) (d : Device) : (countLost ch d).scan = d.scan := rfl
@[simp] theorem countLost_chans (ch : Channel) (d : Device) : (countLost ch d).chans = d.chans := rfl
@[simp] theorem countLost_map (ch : Channel) (d : Device) : (countLost ch d).map = d.map := rfl
@[simp] theorem countLost_profiles (ch : Channel) (d : Device) : (countLost ch d).profiles = d.profiles := rfl
@[simp] theorem countLost_delivery (ch : Channel) (d : Device) : (countLost ch d).delivery = d.delivery := rfl
@[simp] theorem countLost_intake (ch : Channel) (d : Device) : (countLost ch d).intake = d.intake := rfl
@[simp] theorem countLost_exec (ch : Channel) (d : Device) : (countLost ch d).exec = d.exec := rfl
@[simp] theorem countLost_trace (ch : Channel) (d : Device) : (countLost ch d).trace = d.trace := rfl
@[simp] theorem countLost_link (ch : Channel) (d : Device) : (countLost ch d).link = d.link := rfl
@[simp] theorem countLost_regs (ch : Channel) (d : Device) : (countLost ch d).regs = d.regs := rfl
@[simp] theorem countLost_clock (ch : Channel) (d : Device) : (countLost ch d).clock = d.clock := rfl

@[simp] theorem countFrame_board (d : Device) : (countFrame d).board = d.board := rfl
@[simp] theorem countFrame_scan (d : Device) : (countFrame d).scan = d.scan := rfl
@[simp] theorem countFrame_chans (d : Device) : (countFrame d).chans = d.chans := rfl
@[simp] theorem countFrame_map (d : Device) : (countFrame d).map = d.map := rfl
@[simp] theorem countFrame_profiles (d : Device) : (countFrame d).profiles = d.profiles := rfl
@[simp] theorem countFrame_delivery (d : Device) : (countFrame d).delivery = d.delivery := rfl
@[simp] theorem countFrame_intake (d : Device) : (countFrame d).intake = d.intake := rfl
@[simp] theorem countFrame_exec (d : Device) : (countFrame d).exec = d.exec := rfl
@[simp] theorem countFrame_trace (d : Device) : (countFrame d).trace = d.trace := rfl
@[simp] theorem countFrame_link (d : Device) : (countFrame d).link = d.link := rfl
@[simp] theorem countFrame_regs (d : Device) : (countFrame d).regs = d.regs := rfl
@[simp] theorem countFrame_clock (d : Device) : (countFrame d).clock = d.clock := rfl

@[simp] theorem countSlip_board (d : Device) : (countSlip d).board = d.board := rfl
@[simp] theorem countSlip_scan (d : Device) : (countSlip d).scan = d.scan := rfl
@[simp] theorem countSlip_chans (d : Device) : (countSlip d).chans = d.chans := rfl
@[simp] theorem countSlip_map (d : Device) : (countSlip d).map = d.map := rfl
@[simp] theorem countSlip_profiles (d : Device) : (countSlip d).profiles = d.profiles := rfl
@[simp] theorem countSlip_delivery (d : Device) : (countSlip d).delivery = d.delivery := rfl
@[simp] theorem countSlip_intake (d : Device) : (countSlip d).intake = d.intake := rfl
@[simp] theorem countSlip_exec (d : Device) : (countSlip d).exec = d.exec := rfl
@[simp] theorem countSlip_trace (d : Device) : (countSlip d).trace = d.trace := rfl
@[simp] theorem countSlip_link (d : Device) : (countSlip d).link = d.link := rfl
@[simp] theorem countSlip_regs (d : Device) : (countSlip d).regs = d.regs := rfl
@[simp] theorem countSlip_clock (d : Device) : (countSlip d).clock = d.clock := rfl

@[simp] theorem countIdentFailure_board (d : Device) : (countIdentFailure d).board = d.board := rfl
@[simp] theorem countIdentFailure_scan (d : Device) : (countIdentFailure d).scan = d.scan := rfl
@[simp] theorem countIdentFailure_chans (d : Device) : (countIdentFailure d).chans = d.chans := rfl
@[simp] theorem countIdentFailure_map (d : Device) : (countIdentFailure d).map = d.map := rfl
@[simp] theorem countIdentFailure_profiles (d : Device) : (countIdentFailure d).profiles = d.profiles := rfl
@[simp] theorem countIdentFailure_delivery (d : Device) : (countIdentFailure d).delivery = d.delivery := rfl
@[simp] theorem countIdentFailure_intake (d : Device) : (countIdentFailure d).intake = d.intake := rfl
@[simp] theorem countIdentFailure_exec (d : Device) : (countIdentFailure d).exec = d.exec := rfl
@[simp] theorem countIdentFailure_trace (d : Device) : (countIdentFailure d).trace = d.trace := rfl
@[simp] theorem countIdentFailure_link (d : Device) : (countIdentFailure d).link = d.link := rfl
@[simp] theorem countIdentFailure_regs (d : Device) : (countIdentFailure d).regs = d.regs := rfl
@[simp] theorem countIdentFailure_clock (d : Device) : (countIdentFailure d).clock = d.clock := rfl

@[simp] theorem setCurrent_board (slot : Fin 32) (w : Work) (d : Device) : (setCurrent slot w d).board = d.board := rfl
@[simp] theorem setCurrent_scan (slot : Fin 32) (w : Work) (d : Device) : (setCurrent slot w d).scan = d.scan := rfl
@[simp] theorem setCurrent_chans (slot : Fin 32) (w : Work) (d : Device) : (setCurrent slot w d).chans = d.chans := rfl
@[simp] theorem setCurrent_map (slot : Fin 32) (w : Work) (d : Device) : (setCurrent slot w d).map = d.map := rfl
@[simp] theorem setCurrent_profiles (slot : Fin 32) (w : Work) (d : Device) : (setCurrent slot w d).profiles = d.profiles := rfl
@[simp] theorem setCurrent_delivery (slot : Fin 32) (w : Work) (d : Device) : (setCurrent slot w d).delivery = d.delivery := rfl
@[simp] theorem setCurrent_intake (slot : Fin 32) (w : Work) (d : Device) : (setCurrent slot w d).intake = d.intake := rfl
@[simp] theorem setCurrent_trace (slot : Fin 32) (w : Work) (d : Device) : (setCurrent slot w d).trace = d.trace := rfl
@[simp] theorem setCurrent_link (slot : Fin 32) (w : Work) (d : Device) : (setCurrent slot w d).link = d.link := rfl
@[simp] theorem setCurrent_regs (slot : Fin 32) (w : Work) (d : Device) : (setCurrent slot w d).regs = d.regs := rfl
@[simp] theorem setCurrent_clock (slot : Fin 32) (w : Work) (d : Device) : (setCurrent slot w d).clock = d.clock := rfl
@[simp] theorem setCurrent_counters (slot : Fin 32) (w : Work) (d : Device) : (setCurrent slot w d).counters = d.counters := rfl

@[simp] theorem setWork_board (w : Work) (d : Device) : (setWork w d).board = d.board := rfl
@[simp] theorem setWork_scan (w : Work) (d : Device) : (setWork w d).scan = d.scan := rfl
@[simp] theorem setWork_chans (w : Work) (d : Device) : (setWork w d).chans = d.chans := rfl
@[simp] theorem setWork_map (w : Work) (d : Device) : (setWork w d).map = d.map := rfl
@[simp] theorem setWork_profiles (w : Work) (d : Device) : (setWork w d).profiles = d.profiles := rfl
@[simp] theorem setWork_delivery (w : Work) (d : Device) : (setWork w d).delivery = d.delivery := rfl
@[simp] theorem setWork_intake (w : Work) (d : Device) : (setWork w d).intake = d.intake := rfl
@[simp] theorem setWork_trace (w : Work) (d : Device) : (setWork w d).trace = d.trace := rfl
@[simp] theorem setWork_link (w : Work) (d : Device) : (setWork w d).link = d.link := rfl
@[simp] theorem setWork_regs (w : Work) (d : Device) : (setWork w d).regs = d.regs := rfl
@[simp] theorem setWork_clock (w : Work) (d : Device) : (setWork w d).clock = d.clock := rfl
@[simp] theorem setWork_counters (w : Work) (d : Device) : (setWork w d).counters = d.counters := rfl

@[simp] theorem endGrant_board (d : Device) : (endGrant d).board = d.board := rfl
@[simp] theorem endGrant_scan (d : Device) : (endGrant d).scan = d.scan := rfl
@[simp] theorem endGrant_chans (d : Device) : (endGrant d).chans = d.chans := rfl
@[simp] theorem endGrant_profiles (d : Device) : (endGrant d).profiles = d.profiles := rfl
@[simp] theorem endGrant_delivery (d : Device) : (endGrant d).delivery = d.delivery := rfl
@[simp] theorem endGrant_intake (d : Device) : (endGrant d).intake = d.intake := rfl
@[simp] theorem endGrant_exec (d : Device) : (endGrant d).exec = d.exec := rfl
@[simp] theorem endGrant_trace (d : Device) : (endGrant d).trace = d.trace := rfl
@[simp] theorem endGrant_link (d : Device) : (endGrant d).link = d.link := rfl
@[simp] theorem endGrant_regs (d : Device) : (endGrant d).regs = d.regs := rfl
@[simp] theorem endGrant_clock (d : Device) : (endGrant d).clock = d.clock := rfl
@[simp] theorem endGrant_counters (d : Device) : (endGrant d).counters = d.counters := rfl

@[simp] theorem withdrawScrub_board (d : Device) : (withdrawScrub d).board = d.board := rfl
@[simp] theorem withdrawScrub_scan (d : Device) : (withdrawScrub d).scan = d.scan := rfl
@[simp] theorem withdrawScrub_chans (d : Device) : (withdrawScrub d).chans = d.chans := rfl
@[simp] theorem withdrawScrub_profiles (d : Device) : (withdrawScrub d).profiles = d.profiles := rfl
@[simp] theorem withdrawScrub_delivery (d : Device) : (withdrawScrub d).delivery = d.delivery := rfl
@[simp] theorem withdrawScrub_intake (d : Device) : (withdrawScrub d).intake = d.intake := rfl
@[simp] theorem withdrawScrub_exec (d : Device) : (withdrawScrub d).exec = d.exec := rfl
@[simp] theorem withdrawScrub_trace (d : Device) : (withdrawScrub d).trace = d.trace := rfl
@[simp] theorem withdrawScrub_link (d : Device) : (withdrawScrub d).link = d.link := rfl
@[simp] theorem withdrawScrub_regs (d : Device) : (withdrawScrub d).regs = d.regs := rfl
@[simp] theorem withdrawScrub_clock (d : Device) : (withdrawScrub d).clock = d.clock := rfl
@[simp] theorem withdrawScrub_counters (d : Device) : (withdrawScrub d).counters = d.counters := rfl

@[simp] theorem withdrawExec_board (d : Device) : (withdrawExec d).board = d.board := rfl
@[simp] theorem withdrawExec_scan (d : Device) : (withdrawExec d).scan = d.scan := rfl
@[simp] theorem withdrawExec_chans (d : Device) : (withdrawExec d).chans = d.chans := rfl
@[simp] theorem withdrawExec_profiles (d : Device) : (withdrawExec d).profiles = d.profiles := rfl
@[simp] theorem withdrawExec_delivery (d : Device) : (withdrawExec d).delivery = d.delivery := rfl
@[simp] theorem withdrawExec_intake (d : Device) : (withdrawExec d).intake = d.intake := rfl
@[simp] theorem withdrawExec_exec (d : Device) : (withdrawExec d).exec = d.exec := rfl
@[simp] theorem withdrawExec_trace (d : Device) : (withdrawExec d).trace = d.trace := rfl
@[simp] theorem withdrawExec_link (d : Device) : (withdrawExec d).link = d.link := rfl
@[simp] theorem withdrawExec_regs (d : Device) : (withdrawExec d).regs = d.regs := rfl
@[simp] theorem withdrawExec_clock (d : Device) : (withdrawExec d).clock = d.clock := rfl
@[simp] theorem withdrawExec_counters (d : Device) : (withdrawExec d).counters = d.counters := rfl

@[simp] theorem maplogClear_board (d : Device) : (maplogClear d).board = d.board := rfl
@[simp] theorem maplogClear_scan (d : Device) : (maplogClear d).scan = d.scan := rfl
@[simp] theorem maplogClear_chans (d : Device) : (maplogClear d).chans = d.chans := rfl
@[simp] theorem maplogClear_profiles (d : Device) : (maplogClear d).profiles = d.profiles := rfl
@[simp] theorem maplogClear_delivery (d : Device) : (maplogClear d).delivery = d.delivery := rfl
@[simp] theorem maplogClear_intake (d : Device) : (maplogClear d).intake = d.intake := rfl
@[simp] theorem maplogClear_exec (d : Device) : (maplogClear d).exec = d.exec := rfl
@[simp] theorem maplogClear_trace (d : Device) : (maplogClear d).trace = d.trace := rfl
@[simp] theorem maplogClear_link (d : Device) : (maplogClear d).link = d.link := rfl
@[simp] theorem maplogClear_regs (d : Device) : (maplogClear d).regs = d.regs := rfl
@[simp] theorem maplogClear_clock (d : Device) : (maplogClear d).clock = d.clock := rfl
@[simp] theorem maplogClear_counters (d : Device) : (maplogClear d).counters = d.counters := rfl

@[simp] theorem armTrace_board (slot : Fin 32) (p : TraceParams) (d : Device) : (armTrace slot p d).board = d.board := rfl
@[simp] theorem armTrace_scan (slot : Fin 32) (p : TraceParams) (d : Device) : (armTrace slot p d).scan = d.scan := rfl
@[simp] theorem armTrace_chans (slot : Fin 32) (p : TraceParams) (d : Device) : (armTrace slot p d).chans = d.chans := rfl
@[simp] theorem armTrace_map (slot : Fin 32) (p : TraceParams) (d : Device) : (armTrace slot p d).map = d.map := rfl
@[simp] theorem armTrace_profiles (slot : Fin 32) (p : TraceParams) (d : Device) : (armTrace slot p d).profiles = d.profiles := rfl
@[simp] theorem armTrace_delivery (slot : Fin 32) (p : TraceParams) (d : Device) : (armTrace slot p d).delivery = d.delivery := rfl
@[simp] theorem armTrace_intake (slot : Fin 32) (p : TraceParams) (d : Device) : (armTrace slot p d).intake = d.intake := rfl
@[simp] theorem armTrace_exec (slot : Fin 32) (p : TraceParams) (d : Device) : (armTrace slot p d).exec = d.exec := rfl
@[simp] theorem armTrace_link (slot : Fin 32) (p : TraceParams) (d : Device) : (armTrace slot p d).link = d.link := rfl
@[simp] theorem armTrace_regs (slot : Fin 32) (p : TraceParams) (d : Device) : (armTrace slot p d).regs = d.regs := rfl
@[simp] theorem armTrace_clock (slot : Fin 32) (p : TraceParams) (d : Device) : (armTrace slot p d).clock = d.clock := rfl
@[simp] theorem armTrace_counters (slot : Fin 32) (p : TraceParams) (d : Device) : (armTrace slot p d).counters = d.counters := rfl

@[simp] theorem trackerFree_board (d : Device) : (trackerFree d).board = d.board := rfl
@[simp] theorem trackerFree_chans (d : Device) : (trackerFree d).chans = d.chans := rfl
@[simp] theorem trackerFree_map (d : Device) : (trackerFree d).map = d.map := rfl
@[simp] theorem trackerFree_profiles (d : Device) : (trackerFree d).profiles = d.profiles := rfl
@[simp] theorem trackerFree_delivery (d : Device) : (trackerFree d).delivery = d.delivery := rfl
@[simp] theorem trackerFree_intake (d : Device) : (trackerFree d).intake = d.intake := rfl
@[simp] theorem trackerFree_exec (d : Device) : (trackerFree d).exec = d.exec := rfl
@[simp] theorem trackerFree_trace (d : Device) : (trackerFree d).trace = d.trace := rfl
@[simp] theorem trackerFree_link (d : Device) : (trackerFree d).link = d.link := rfl
@[simp] theorem trackerFree_regs (d : Device) : (trackerFree d).regs = d.regs := rfl
@[simp] theorem trackerFree_clock (d : Device) : (trackerFree d).clock = d.clock := rfl
@[simp] theorem trackerFree_counters (d : Device) : (trackerFree d).counters = d.counters := rfl

@[simp] theorem sendMessage_board (d : Device) : (sendMessage d).board = d.board := rfl
@[simp] theorem sendMessage_scan (d : Device) : (sendMessage d).scan = d.scan := rfl
@[simp] theorem sendMessage_chans (d : Device) : (sendMessage d).chans = d.chans := rfl
@[simp] theorem sendMessage_map (d : Device) : (sendMessage d).map = d.map := rfl
@[simp] theorem sendMessage_profiles (d : Device) : (sendMessage d).profiles = d.profiles := rfl
@[simp] theorem sendMessage_delivery (d : Device) : (sendMessage d).delivery = d.delivery := rfl
@[simp] theorem sendMessage_intake (d : Device) : (sendMessage d).intake = d.intake := rfl
@[simp] theorem sendMessage_exec (d : Device) : (sendMessage d).exec = d.exec := rfl
@[simp] theorem sendMessage_trace (d : Device) : (sendMessage d).trace = d.trace := rfl
@[simp] theorem sendMessage_clock (d : Device) : (sendMessage d).clock = d.clock := rfl
@[simp] theorem sendMessage_counters (d : Device) : (sendMessage d).counters = d.counters := rfl

@[simp] theorem flipBit_board (node : Fin 1024) (b : Fin 39) (d : Device) : (flipBit node b d).board = d.board := rfl
@[simp] theorem flipBit_scan (node : Fin 1024) (b : Fin 39) (d : Device) : (flipBit node b d).scan = d.scan := rfl
@[simp] theorem flipBit_chans (node : Fin 1024) (b : Fin 39) (d : Device) : (flipBit node b d).chans = d.chans := rfl
@[simp] theorem flipBit_profiles (node : Fin 1024) (b : Fin 39) (d : Device) : (flipBit node b d).profiles = d.profiles := rfl
@[simp] theorem flipBit_delivery (node : Fin 1024) (b : Fin 39) (d : Device) : (flipBit node b d).delivery = d.delivery := rfl
@[simp] theorem flipBit_intake (node : Fin 1024) (b : Fin 39) (d : Device) : (flipBit node b d).intake = d.intake := rfl
@[simp] theorem flipBit_exec (node : Fin 1024) (b : Fin 39) (d : Device) : (flipBit node b d).exec = d.exec := rfl
@[simp] theorem flipBit_trace (node : Fin 1024) (b : Fin 39) (d : Device) : (flipBit node b d).trace = d.trace := rfl
@[simp] theorem flipBit_link (node : Fin 1024) (b : Fin 39) (d : Device) : (flipBit node b d).link = d.link := rfl
@[simp] theorem flipBit_regs (node : Fin 1024) (b : Fin 39) (d : Device) : (flipBit node b d).regs = d.regs := rfl
@[simp] theorem flipBit_clock (node : Fin 1024) (b : Fin 39) (d : Device) : (flipBit node b d).clock = d.clock := rfl
@[simp] theorem flipBit_counters (node : Fin 1024) (b : Fin 39) (d : Device) : (flipBit node b d).counters = d.counters := rfl

/-! ### Values kept per channel -/

@[simp] theorem PerChannel.get_set_same {α : Type} (p : PerChannel α) (ch : Channel) (v : α) :
    (p.set ch v).get ch = v := by cases ch <;> rfl

theorem PerChannel.get_set_other {α : Type} (p : PerChannel α) {ch ch' : Channel} (v : α) (h : ch' ≠ ch) :
    (p.set ch v).get ch' = p.get ch' := by cases ch <;> cases ch' <;> first | rfl | exact absurd rfl h

@[simp] theorem Device.ctx_setCtx_same (d : Device) (ch : Channel) (c : Context) : (d.setCtx ch c).ctx ch = c := by
  cases ch <;> rfl

theorem Device.ctx_setCtx_other (d : Device) {ch ch' : Channel} (c : Context) (h : ch' ≠ ch) :
    (d.setCtx ch c).ctx ch' = d.ctx ch' := by cases ch <;> cases ch' <;> first | rfl | exact absurd rfl h

@[simp] theorem setSweep_sweep (sw : Option Sweep) (d : Device) : (setSweep sw d).intake.sweep = sw := rfl
@[simp] theorem setRotation_rotation (slot : Fin 32) (d : Device) : (setRotation slot d).intake.rotation = slot := rfl
@[simp] theorem setHolding_holding (q : List Record) (d : Device) : (setHolding q d).delivery.holding = q := rfl
@[simp] theorem setHolding_captures (q : List Record) (d : Device) :
    (setHolding q d).delivery.captures = d.delivery.captures := rfl
@[simp] theorem putCapture_holding (c : Capture) (d : Device) :
    (putCapture c d).delivery.holding = d.delivery.holding := rfl
@[simp] theorem completeCapture_holding (c : Capture) (r : Reason) (d : Device) :
    (completeCapture c r d).delivery.holding = d.delivery.holding := rfl
@[simp] theorem enterBuffer_buffer (w : HostWrite) (d : Device) :
    (enterBuffer w d).link.buffer = d.link.buffer ++ [w] := rfl
@[simp] theorem handOver_slotQueue (ws : List HostWrite) (d : Device) :
    (handOver ws d).link.slotQueue = d.link.slotQueue ++ ws := rfl
@[simp] theorem handOver_buffer (ws : List HostWrite) (d : Device) : (handOver ws d).link.buffer = d.link.buffer := rfl
@[simp] theorem completeSlot_buffer (slot : Fin 32) (st : Status) (dt : Detail) (fs : List Byte) (d : Device) :
    (completeSlot slot st dt fs d).link.buffer = d.link.buffer := rfl
@[simp] theorem completeCapture_buffer (c : Capture) (r : Reason) (d : Device) :
    (completeCapture c r d).link.buffer = d.link.buffer := rfl

/-! ### The idle timers pausing -/

@[simp] theorem pauseTimers_board (d : Device) : (pauseTimers d).board = d.board := rfl
@[simp] theorem pauseTimers_scan (d : Device) : (pauseTimers d).scan = d.scan := rfl
@[simp] theorem pauseTimers_chans (d : Device) : (pauseTimers d).chans = d.chans := rfl
@[simp] theorem pauseTimers_map (d : Device) : (pauseTimers d).map = d.map := rfl
@[simp] theorem pauseTimers_profiles (d : Device) : (pauseTimers d).profiles = d.profiles := rfl
@[simp] theorem pauseTimers_intake (d : Device) : (pauseTimers d).intake = d.intake := rfl
@[simp] theorem pauseTimers_exec (d : Device) : (pauseTimers d).exec = d.exec := rfl
@[simp] theorem pauseTimers_trace (d : Device) : (pauseTimers d).trace = d.trace := rfl
@[simp] theorem pauseTimers_link (d : Device) : (pauseTimers d).link = d.link := rfl
@[simp] theorem pauseTimers_regs (d : Device) : (pauseTimers d).regs = d.regs := rfl
@[simp] theorem pauseTimers_clock (d : Device) : (pauseTimers d).clock = d.clock := rfl
@[simp] theorem pauseTimers_counters (d : Device) : (pauseTimers d).counters = d.counters := rfl
@[simp] theorem pauseTimers_holding (d : Device) : (pauseTimers d).delivery.holding = d.delivery.holding := rfl
@[simp] theorem pauseTimers_captures (d : Device) :
    (pauseTimers d).delivery.captures = d.delivery.captures.map Capture.pause := rfl

end Sys2Proof.Machine
end

