-- ==== Sys2Proof/Laws/Calm.lean ====
section
/-!
SUPPORT. A part that has nothing waiting for the link: the settling of the Link Port leaves it as it is.
-/
namespace Sys2Proof.Machine

open Sys2Proof

/-- No drain walk changes a part that holds no record. -/
theorem drainWalk_nil {d : Device} (h : d.delivery.holding = []) : drainWalk d = d := by
  unfold drainWalk
  split
  · rfl
  · rw [h]; unfold drainGo; simp only [setHolding]; rw [← h]

/-- With no slot write, staged frame or bulk write waiting, no entry is granted below the drain. -/
theorem grantBelowDrain_none {d : Device} (hq : d.link.slotQueue = []) (ht : ∀ t, d.trace = some t → t.staging = [])
    (hb : bulkGrant d = none) : grantBelowDrain d = none := by
  unfold grantBelowDrain
  rw [hq]
  simp only
  split
  · next t h => rw [ht t h]; exact hb
  · exact hb

/-- With nothing waiting, no entry is granted. -/
theorem grants_none {d : Device} (hh : d.delivery.holding = []) (hq : d.link.slotQueue = [])
    (ht : ∀ t, d.trace = some t → t.staging = []) (hb : bulkGrant d = none) : grants d = d := by
  have hd : offerDrain d = d := by unfold offerDrain; split <;> simp [drainWalk_nil hh]
  have h1 : grantOne d = none := by unfold grantOne; split <;> simp [grantBelowDrain_none hq ht hb]
  show grantEntries 4 d = d
  unfold grantEntries
  rw [hd, h1]

/-- An empty buffer has no head to issue. -/
theorem issueHead_empty {d : Device} (h : d.link.buffer = []) : issueHead d = d := by
  unfold issueHead; simp [h]

/-- A calm part settles to itself. -/
theorem settleLink_calm {d : Device} (h : d.Calm) : settleLink d = d := by
  unfold settleLink
  rw [grants_none h.holding h.slotQueue h.staging h.bulk, issueHead_empty h.buffer]

/-- With no read request waiting, none is issued. -/
theorem pumpReads_none {d : Device} (h : d.link.waiting = []) : pumpReads d = d := by
  unfold pumpReads; split
  · rfl
  · rw [h]

/-! ### Idle timers at an entry into HALTED -/

/-- What pausing leaves of the Delivery Unit, as Safety says it. -/
theorem pauseTimers_delivery (d : Device) : (pauseTimers d).delivery = d.delivery.paused := by
  unfold pauseTimers Delivery.paused
  show Delivery.mk _ _ = Delivery.mk _ _
  congr 1
  refine List.map_congr_left fun c _ => ?_
  unfold Capture.pause
  split
  · next h => simp [h]
  · next h =>
    split
    · next h' =>
      have : c.elapsed ≤ 1000 * c.timeout - 1 := by omega
      rw [Nat.min_eq_left this]
    · next h' =>
      have : 1000 * c.timeout - 1 ≤ c.elapsed := by omega
      rw [Nat.min_eq_right this]

/-- No paused timer has run its timeout. -/
theorem Delivery.paused_short (v : Delivery) : ∀ c ∈ v.paused.captures, c.timeout = 0 ∨ c.elapsed < 1000 * c.timeout := by
  intro c hc
  obtain ⟨x, -, rfl⟩ := List.mem_map.1 hc
  split
  · assumption
  · next h => right; simp only; omega

end Sys2Proof.Machine
end

