-- ==== Sys2Proof/Laws/Steps.lean ====
section
/-!
SUPPORT. The tables of a channel's step, as Safety states them, are what the Channel Tracker computes; and what a grant of
the Map Arbiter does to the port.
-/
namespace Sys2Proof.Machine

open Sys2Proof

/-- The table of R34 is Context.applySymbol. -/
theorem Context.reads_iff (c c' : Context) (s : Symbol) : c.Reads s c' ↔ c' = c.applySymbol s := by
  constructor
  · rintro (h | ⟨_, h, hs⟩ | h | h | ⟨x, h, hn⟩ | ⟨x, h, hn, hg⟩ | ⟨x, h, hn, hg⟩ | ⟨_, h⟩)
    · simp [Context.applySymbol, h, Context.symbolInUnknown]
    · cases s <;> simp_all [Context.applySymbol, Context.symbolInUnknown]
    · simp [Context.applySymbol, h, Context.symbolInReading]
    · simp [Context.applySymbol, h, Context.symbolInReading]
    · simp [Context.applySymbol, h, Context.symbolInReading, Context.takeDigit, hn]
    · simp [Context.applySymbol, h, Context.symbolInReading, Context.takeDigit, Nat.not_lt.2 hn, readingGood, hg]
    · simp [Context.applySymbol, h, Context.symbolInReading, Context.takeDigit, Nat.not_lt.2 hn, readingGood, hg,
        Context.badReading]
      split <;> split <;> first | rfl | omega
    · rcases h with h | h <;> simp [Context.applySymbol, h]
  · rintro rfl
    unfold Context.applySymbol
    cases h : c.ident
    · cases s
      · exact .ignored _ h (by simp)
      · exact .begins h
      · exact .ignored _ h (by simp)
    · cases s with
      | none => exact .abandoned h
      | mark => exact .restarts h
      | digit x =>
        simp only [Context.symbolInReading, Context.takeDigit]
        by_cases hn : c.digits.length < 9
        · simp only [hn, if_true]; exact .collected x h hn
        · by_cases hg : receivedCheck (c.digits ++ [x]) = nibbleSum (toolCode (c.digits ++ [x]))
          · simp only [hn, readingGood, hg, if_false, beq_self_eq_true, if_true]; exact .decoded x h (by omega) hg
          · simp only [hn, readingGood, if_false, beq_iff_eq, hg, Context.badReading]
            have := Context.Reads.failed (c := c) x h (by omega) hg
            convert this using 2
            split <;> split <;> first | rfl | omega
    · exact .settled _ (.inl h)
    · exact .settled _ (.inr h)

/-- A silent step of the tables of R23, R24 and R26 is a silent transition. -/
theorem Context.transition_silent {c c' : Context} {p : Profile} {px py v : Nat} (h : c.Silent p px py c') :
    c.transition p px py v = .silent c' := by
  rcases h with ⟨hs, hp⟩ | ⟨b, hs, hp⟩ | ⟨hs, hp, hc⟩
  · simp only [reaches] at hp; simp [Context.transition, hs, hp]
  · unfold reaches at hp; cases b <;> simp_all [Context.transition]
  · unfold reaches at hp; simp_all [Context.transition]

/-- A step of the tables of R23, R25 and R26 that yields a record is that transition. -/
theorem Context.transition_yields {c c' : Context} {p : Profile} {px py v : Nat} {y : Yield} (h : c.Yields p px py v c' y) :
    c.transition p px py v = .record c' y := by
  rcases h with ⟨hs, hp, hv⟩ | ⟨hs, hp, hv⟩ | ⟨hs, hp, hv⟩ | ⟨hs, hp, hv⟩ | ⟨hs, hp, hv⟩ | ⟨hs, hp, hv⟩ <;>
    unfold reaches at hp
  · simp [Context.transition, hs, hp, Move.ofPair, Context.findPen, hv]
  · simp [Context.transition, hs, hp, Move.ofPair, Context.findPen, Nat.not_le.2 hv]
  · rcases hs with hs | ⟨hs, hc⟩ <;>
      simp [Context.transition, Move.ofPair, Context.contactCheck, Context.back, *]
  · rcases hs with hs | ⟨hs, hc⟩ <;>
      simp [Context.transition, Move.ofPair, Context.contactCheck, Nat.not_le.2 hv, Context.back, *]
  · rcases hs with hs | ⟨hs, hc⟩ <;>
      simp [Context.transition, Move.ofPair, Context.contactCheck, Context.back, *]
  · rcases hs with hs | ⟨hs, hc⟩ <;>
      simp [Context.transition, Move.ofPair, Context.contactCheck, Nat.not_le.2 hv, Context.back, *]

/-- The profile that governs a step by the table of R36 is the resolved one. -/
theorem Profiles.resolve_eq {ps : Profiles} {st : TrackState} {c : Context} {r : Resolution} (h : ps.Governs st c r) :
    ps.resolve st c = r := by
  rcases h with h | h | ⟨b, a, e, hs, hk, hz, he, hc, hb⟩ | ⟨hs, hk, h⟩
  · simp [Profiles.resolve, h, Profiles.resolveDefault]
  · simp [Profiles.resolve, h, Profiles.resolveDefault]
  · have hl : ps.lookup c.code = some e := by
      have : b.find? (fun e => e.key == c.code) = none := by simpa using hb
      simp only [Profiles.lookup, hz, if_false, he, List.find?_append]
      simp [this, hc]
    simp [Profiles.resolve, hs, hk, hl, hc]
  · have hl : ps.lookup c.code = none := by
      unfold Profiles.lookup
      rcases h with h | h
      · simp [h]
      · split
        · rfl
        · simpa using h
    simp [Profiles.resolve, hs, hk, hl, Profiles.resolveDefault]

/-- A step that ends in HOVER or CONTACT takes the peaks of its frame (R7). -/
theorem Context.updatePeaks_of_near {c : Context} (f : FrameResults) (n : Nat) (h : c.state = .hover ∨ c.state = .contact) :
    c.updatePeaks f n = c.peaksOf f n := by
  simp [Context.updatePeaks, h, Context.peaksOf, FrameResults.weakRing]

/-- Any other step keeps the peaks (R7). -/
theorem Context.updatePeaks_of_away {c : Context} (f : FrameResults) (n : Nat)
    (h : ¬(c.state = .hover ∨ c.state = .contact)) : c.updatePeaks f n = c := by
  simp [Context.updatePeaks, h]

/-- The last seen profile after a step (R37). -/
theorem Context.noteProfile_eq (c : Context) (r : Resolution) : c.noteProfile c.state r = c.resolved r := by
  simp [Context.noteProfile, Context.resolved]
  grind

/-- A grant to a MAP_LOAD changes the node memory and nothing else. -/
theorem grantWrite_eq (d : Device) : ∃ n, grantWrite d = { d with map := { d.map with nodes := n } } := by
  unfold grantWrite; split
  · split <;> exact ⟨_, rfl⟩
  · exact ⟨_, rfl⟩

/-- What a grant does to the map port: the requester no longer waits, and the pass counts move as R66 gives. -/
theorem grantTo_map (w : Requester) (d : Device) : ∃ n g, g.who = w ∧ (grantTo w d).map = { d.map with
    nodes := n, grant := some g
    solverWaiting := d.map.solverWaiting && w != .solver, execWaiting := d.map.execWaiting && w != .executor
    scrubWaiting := d.map.scrubWaiting && w != .scrubber
    execPass := passAfter (w == .executor) d.map.execWaiting d.map.execPass
    scrubPass := passAfter (w == .scrubber) d.map.scrubWaiting d.map.scrubPass } := by
  obtain ⟨n, hn⟩ := grantWrite_eq d
  unfold grantTo
  cases w
  · exact ⟨d.map.nodes, _, rfl, rfl⟩
  · simp only [if_true, hn]; exact ⟨n, _, rfl, rfl⟩
  · exact ⟨d.map.nodes, _, rfl, rfl⟩

end Sys2Proof.Machine
end

