-- ==== Sys2Proof/Laws/Channels.lean ====
section
/-!
SUPPORT. A channel's step, said once: on a part that lends no capture and holds no trace, a step of Device.Steps is what
stepChannel does.
-/
namespace Sys2Proof.Machine

open Sys2Proof

/-- A part that lends no capture, holds no trace and has nothing waiting for the link but held records. -/
structure Device.Unlent (d : Device) : Prop where
  captures : d.delivery.captures = []
  trace : d.trace = none
  buffer : d.link.buffer = []
  slotQueue : d.link.slotQueue = []
  bulk : bulkGrant d = none

/-- Whether a bulk write waits depends on the Executor's post and the counters alone. -/
theorem bulkGrant_none_of_exec {d d' : Device} (he : d'.exec = d.exec) (h : bulkGrant d = none) :
    bulkGrant d' = none := by
  unfold bulkGrant at h ⊢
  rw [he]
  split at h <;> simp_all

/-- With no capture open a drain walk places nothing. -/
theorem drainGo_nil {d : Device} (h : d.delivery.captures = []) (q : List Record) :
    ∀ b, drainGo q b d = (q, d) := by
  induction q with
  | nil => intro b; rfl
  | cons r rest ih => intro b; unfold drainGo; simp [h, firstTaking, ih]

/-- The Link Port of an unlent part has nothing to settle. -/
theorem settleLink_unlent {d : Device} (h : d.Unlent) : settleLink d = d := by
  have hd : drainWalk d = d := by
    unfold drainWalk; split
    · rfl
    · rw [drainGo_nil h.captures]; rfl
  have hb : grantBelowDrain d = none := grantBelowDrain_none h.slotQueue (by simp [h.trace]) h.bulk
  have ho : offerDrain d = d := by unfold offerDrain; split <;> simp [hd]
  have h1 : grantOne d = none := by unfold grantOne; split <;> simp [hb]
  have hg : grants d = d := by show grantEntries 4 d = d; unfold grantEntries; rw [ho, h1]
  rw [settleLink, hg, issueHead_empty h.buffer]

/-- The part after a channel's step that ended at once: its context, the record held, the counters. -/
def Device.stepped (d : Device) (ch : Channel) (c : Context) (q : Option Record) (fails : BitVec 32) : Device :=
  { d.setCtx ch c with
    delivery := { d.delivery with holding := d.delivery.holding ++ q.toList }
    counters := { d.counters with
      identFailures := d.counters.identFailures + fails
      produced := if q.isSome then d.counters.produced.bump ch else d.counters.produced } }

/-- The part with its identification failures risen by k. -/
abbrev Device.tallied (d : Device) (k : BitVec 32) : Device :=
  { d with counters := { d.counters with identFailures := d.counters.identFailures + k } }

/-- What concerns neither captures, trace, link nor Executor keeps a part unlent. -/
theorem Device.Unlent.keep {d d' : Device} (h : d.Unlent) (hc : d'.delivery.captures = d.delivery.captures)
    (ht : d'.trace = d.trace) (hl : d'.link = d.link) (he : d'.exec = d.exec) : d'.Unlent :=
  ⟨hc.trans h.captures, ht.trans h.trace, by rw [hl]; exact h.buffer, by rw [hl]; exact h.slotQueue,
    bulkGrant_none_of_exec he h.bulk⟩

theorem Context.hears_eq {c c' : Context} {s : Symbol} (h : c.Hears s c') :
    c' = if c.state = .search then c else c.applySymbol s := by
  rcases h with ⟨h, rfl⟩ | ⟨h, hr⟩
  · simp [h]
  · simp [h, (Context.reads_iff _ _ _).1 hr]

theorem Context.applySymbol_frame (c : Context) (s : Symbol) :
    { c.applySymbol s with ident := c.ident, digits := c.digits, attempts := c.attempts, code := c.code } = c := by
  unfold Context.applySymbol
  split
  · cases s <;> rfl
  · cases s <;> simp only [Context.symbolInReading, Context.takeDigit, Context.badReading]
    split
    · rfl
    · split <;> rfl
  · rfl
  · rfl

theorem Context.hears_frame {c c' : Context} {s : Symbol} (h : c.Hears s c') :
    { c' with ident := c.ident, digits := c.digits, attempts := c.attempts, code := c.code } = c := by
  rw [Context.hears_eq h]; split
  · rfl
  · exact Context.applySymbol_frame c s

theorem firstTaking_nil {d : Device} (h : d.delivery.captures = []) (ch : Channel) :
    firstTaking d.delivery.captures ch = none := by simp [h, firstTaking]

theorem deliver_unlent {d : Device} (r : Record) (h : d.Unlent) (hl : d.delivery.holding.length < 47) :
    deliver r d = setGap r.ch false (setHolding (d.delivery.holding ++ [gapApplied r d]) d) := by
  rw [deliver, firstTaking_nil h.captures]
  simp only [appendHolding]
  rw [if_pos (by omega), joinHolding, if_neg (by omega)]

/-- A record produced with no capture open joins the Holding Queue while it has room. -/
theorem produce_unlent {d : Device} {r : Record} (h : d.Unlent) (hl : d.delivery.holding.length < 47) :
    produce r d = d.stepped r.ch
      { d.ctx r.ch with seq := (d.ctx r.ch).seq + 1, hoverCount := 0, gap := false }
      (some (if (d.ctx r.ch).gap then r.withGap else r)) 0 := by
  rw [produce, deliver_unlent]
  · refine (settleLink_unlent ?u).trans ?_
    case u => exact h.keep rfl rfl rfl rfl
    have hg : ∀ (c : Context), c.gap = (d.ctx r.ch).gap → gapApplied r (countProduced r.ch (d.setCtx r.ch c))
        = if (d.ctx r.ch).gap then r.withGap else r := fun c hc => by
      rw [gapApplied]; show (if ((d.setCtx r.ch c).ctx r.ch).gap = true then _ else _) = _
      rw [Device.ctx_setCtx_same, hc]
    rw [hg { d.ctx r.ch with seq := (d.ctx r.ch).seq + 1, hoverCount := 0 } rfl]
    generalize (if (d.ctx r.ch).gap = true then r.withGap else r) = q
    cases r.ch <;> simp [setGap, setHolding, countProduced, Device.setCtx, Device.ctx, Device.stepped, PerChannel.get,
      PerChannel.set]
  · exact h.keep rfl rfl rfl rfl
  · exact hl

/-- A transition that yields a record ends in HOVER or CONTACT as its record does, and touches nothing else but the
stroke number and what a return from COAST clears. -/
theorem Context.yields_frame {c c' : Context} {p : Profile} {px py v : Nat} {y : Yield}
    (h : c.Yields p px py v c' y) :
    ((y.state = .hover ∧ c'.state = .hover) ∨ (y.state = .contact ∧ c'.state = .contact))
    ∧ ∃ st n k b, c' = { c with state := st, stroke := n, coastCount := k, bridged := b } := by
  rcases h with ⟨hs, hp, hv⟩ | ⟨hs, hp, hv⟩ | ⟨hs, hp, hv⟩ | ⟨hs, hp, hv⟩ | ⟨hs, hp, hv⟩ | ⟨hs, hp, hv⟩ <;>
    refine ⟨by simp, ?_⟩
  · exact ⟨_, _, c.coastCount, c.bridged, rfl⟩
  · exact ⟨_, c.stroke, c.coastCount, c.bridged, rfl⟩
  all_goals unfold Context.back; split
  · exact ⟨_, _, _, _, rfl⟩
  · exact ⟨_, _, c.coastCount, c.bridged, rfl⟩
  · exact ⟨_, c.stroke, _, _, rfl⟩
  · exact ⟨_, c.stroke, c.coastCount, c.bridged, rfl⟩
  · exact ⟨_, c.stroke, _, _, rfl⟩
  · exact ⟨_, c.stroke, c.coastCount, c.bridged, rfl⟩
  · exact ⟨_, c.stroke, _, _, rfl⟩
  · exact ⟨_, c.stroke, c.coastCount, c.bridged, rfl⟩

/-- The end of a step with no trace held: the peaks. -/
theorem finishStep_unlent {d : Device} (h : d.Unlent) (ch : Channel) (f : FrameResults) (n : Nat) (ev : RecEvent)
    (p : Nat) :
    finishStep ch f n ev p d = d.setCtx ch ((d.ctx ch).updatePeaks f n) := by
  have : receiveTraceFrame ch f ev ((d.setCtx ch ((d.ctx ch).updatePeaks f n)).ctx ch).state p
      (d.setCtx ch ((d.ctx ch).updatePeaks f n)) = d.setCtx ch ((d.ctx ch).updatePeaks f n) := by
    simp [receiveTraceFrame, Device.setCtx, h.trace]
  rw [finishStep]; simp only [this]
  exact settleLink_unlent (h.keep rfl rfl rfl rfl)

/-- The identification failures of a step. -/
theorem fails_eq (d : Device) (ch : Channel) (c1 : Context) :
    (if (d.ctx ch).ident ≠ .failed ∧ c1.ident = .failed then countIdentFailure d else d)
      = d.tallied (d.fails ch c1) := by
  unfold Device.fails; split
  · rfl
  · simp [Device.tallied]

theorem finishJob_unlent {d : Device} (h : d.Unlent) (hl : d.delivery.holding.length < 47) (j : SolverJob) (noMap : Bool)
    {q : Record} {smooth : Nat} (hq : computedRecord d.board (d.ctx j.ch) j noMap = (q, smooth)) :
    finishJob j noMap d = d.stepped j.ch
      ({ d.ctx j.ch with
          seq := (d.ctx j.ch).seq + 1, hoverCount := 0, lastX := q.x, lastY := q.y, bridged := false, changed := false,
          gap := false, smooth := smooth }.updatePeaks j.results j.profile.prox)
      (some (if (d.ctx j.ch).gap then q.withGap else q)) 0 := by
  have hch : q.ch = j.ch := by have := congrArg (fun z => z.1.ch) hq; exact this.symm
  rw [finishJob]
  simp only [hq]
  rw [produce_unlent, finishStep_unlent]
  · rw [hch]
    simp only [Device.ctx_setCtx_same]
    generalize (if (d.ctx j.ch).gap = true then q.withGap else q) = q'
    cases hj : j.ch <;> simp [Device.stepped, Device.setCtx, Device.ctx, PerChannel.set, PerChannel.get]
  · exact h.keep rfl rfl rfl rfl
  · exact h.keep rfl rfl rfl rfl
  · exact hl

theorem pressureStage_first (p : Profile) (y : Yield) (changed : Bool) (v n : Nat) :
    pressureStage p (y.state == .contact) (firstContact y changed) v n
      = pressureStage p (decide (y.state = .contact))
          (decide (y.event = .touch ∨ y.event = .proxIn ∨ changed = true)) v n := by
  rcases y with ⟨s, e, _⟩
  cases s <;> cases e <;> cases changed <;> rfl

/-- The record computed while the map is ABSENT, short of its channel's gap. -/
theorem computedRecord_absent (d : Device) (ch : Channel) (r : FrameResults) (res : Resolution) (c1 : Context)
    (y : Yield) (st : TrackState) (n : Half) (k : Nat) (b : Bool) :
    let c : Context := { c1.resolved res with state := st, stroke := n, coastCount := k, bridged := b }
    let made := d.uncorrected ch r res c1 (c1.resolved res) c y
    computedRecord d.board c
        { ch := ch, results := r, profile := res.profile, yield := y, unlisted := res.unlisted, got := [] } true
      = ({ made.1 with flags := { made.1.flags with gap := false } }, made.2) := by
  simp only [computedRecord, pressureStage_first, Device.uncorrected, Context.toolField, Context.resolved, if_true]
  rcases c1 with ⟨⟩
  rename_i ident _ _ _ _ _ _ _ _ _
  cases ident <;> simp

/-- A KNOWN code is unlisted as the table of R36 resolves it, outside SEARCH. -/
theorem Profiles.unlisted_eq {ps : Profiles} {st : TrackState} {c : Context} {r : Resolution} (h : ps.Governs st c r)
    (hs : st ≠ .search) : (c.ident == .known && (ps.lookup c.code).isNone) = r.unlisted := by
  have he := Profiles.resolve_eq h
  subst he
  unfold Profiles.resolve
  simp only [hs, if_false]
  split
  · next hk => simp [hk, Profiles.resolveDefault]
  · next hk =>
    have hk : c.ident = .known := by simpa using hk
    split <;> simp_all [Profiles.resolveDefault]

/-- The PROX_OUT of a channel that coasts, its gap applied. -/
theorem farewell_eq {m : Device} {ch : Channel} {r : FrameResults} {c1 : Context} {res : Resolution}
    (hg : m.profiles.Governs .coast c1 res) (hm : m.ctx ch = c1.resolved res) (hs : c1.state = .coast) :
    (if (c1.resolved res).gap = true then
        (proxOutRecord ch (c1.resolved res) (m.codeUnlisted ch) r.timeTag r.slipped).withGap
      else proxOutRecord ch (c1.resolved res) (m.codeUnlisted ch) r.timeTag r.slipped)
      = c1.farewell ch r res.unlisted := by
  have hu : m.codeUnlisted ch = res.unlisted := by
    rw [Device.codeUnlisted, hm]; exact Profiles.unlisted_eq (c := c1) (st := .coast) hg (by simp)
  have hk : (c1.ident == .known && res.unlisted) = res.unlisted := by
    rw [← Profiles.unlisted_eq (c := c1) (st := .coast) hg (by simp)]; cases (c1.ident == Identity.known) <;> rfl
  rw [hu]
  have h2 : proxOutRecord ch (c1.resolved res) res.unlisted r.timeTag r.slipped
      = { c1.farewell ch r res.unlisted with flags := { (c1.farewell ch r res.unlisted).flags with gap := false } } := by
    simp only [proxOutRecord, Context.resolved, Context.farewell, Context.toolField]
    have h3 : ∀ b n v, Context.strokeOpen { c1 with changed := b, lastSeen := n, lastRev := v } = c1.prevContact :=
      fun _ _ _ => by simp [Context.strokeOpen, hs]
    rw [h3, hk]
    rcases c1 with ⟨⟩
    rename_i ident _ _ _ _ _ _ _ _ _
    cases ident <;> simp
  rw [h2]
  show (if c1.gap = true then _ else _) = _
  have h4 : (c1.farewell ch r res.unlisted).flags.gap = c1.gap := rfl
  rw [← h4]
  generalize c1.farewell ch r res.unlisted = q
  rcases q with ⟨_, _, _, ⟨g⟩⟩
  cases g <;> rfl

/-- A step of Device.Steps is what stepChannel does, and it waits for no map read. -/
theorem stepChannel_steps {d : Device} {ch : Channel} {r : FrameResults} {c1 c : Context} {q : Option Record}
    (h : d.Unlent) (hl : d.delivery.holding.length < 47) (hs : d.Steps ch r c1 c q) :
    stepChannel ch r d = (d.stepped ch c q (d.fails ch c1), none) := by
  have key : ∀ {c1 res}, (d.ctx ch).Hears r.symbol c1 → d.profiles.Governs (d.ctx ch).state c1 res →
      stepChannel ch r d =
        (match (c1.resolved res).transition res.profile r.tipX.peakAmp r.tipY.peakAmp r.r.toNat with
        | .silent c => (finishStep ch r res.profile.prox .none 0 ((d.tallied (d.fails ch c1)).setCtx ch c), none)
        | .giveUp =>
          let d := d.tallied (d.fails ch c1)
          let d := produceProxOut ch r.timeTag r.slipped (d.setCtx ch (c1.resolved res))
          let d := d.setCtx ch ((d.ctx ch).forget .search d.profiles.defaultRev)
          (finishStep ch r res.profile.prox .proxOut 0 d, none)
        | .record c y =>
          let d := d.tallied (d.fails ch c1)
          if heldBack d.scan.divisor c y then
            (finishStep ch r res.profile.prox .none 0 (d.setCtx ch { c with hoverCount := c.hoverCount + 1 }), none)
          else
            let j : SolverJob :=
              { ch := ch, results := r, profile := res.profile, yield := y, unlisted := res.unlisted, got := [] }
            let d := d.setCtx ch c
            if d.map.state = .absent then (finishJob j true d, none) else (d, some j)) := by
    intro c1 res hh hg
    have e1 := Context.hears_eq hh
    have e2 : c1.state = (d.ctx ch).state := by
      have h2 := congrArg Context.state (Context.hears_frame hh); exact h2
    rw [stepChannel]
    simp only
    rw [← e1, fails_eq]
    simp only [Profiles.resolve_eq hg]
    rw [← e2, Context.noteProfile_eq]
    all_goals rfl
  have hu : ∀ (k : BitVec 32) (c : Context), Device.Unlent ((d.tallied k).setCtx ch c) :=
    fun _ _ => h.keep rfl rfl rfl rfl
  cases hs with
  | silent hh hg hm =>
    rw [key hh hg, Context.transition_silent hm]
    simp only [finishStep_unlent (hu _ _)]
    have : ¬(c.state = .hover ∨ c.state = .contact) := by
      rcases hm with ⟨hs, hp⟩ | ⟨b, hs, hp⟩ | ⟨hs, hp, hc⟩ <;> simp_all
    simp only [Device.ctx_setCtx_same, Context.updatePeaks_of_away r _ this]
    cases ch <;> simp [Device.stepped, Device.setCtx, PerChannel.set]
  | @heldBack c res y hh hg hm hb =>
    obtain ⟨hy, st, n, k, b, hcc⟩ := Context.yields_frame hm
    have hc : c.hoverCount = c1.hoverCount := by rw [hcc]; rfl
    have hheld : heldBack d.scan.divisor c y = true := by
      simp [heldBack, Yield.plainHover, hc]; simpa [Context.holds, and_assoc] using hb
    rw [key hh hg, Context.transition_yields hm]
    simp only [hheld, if_true]
    rw [finishStep_unlent (hu _ _), Device.ctx_setCtx_same, Context.updatePeaks_of_near, hc]
    · cases ch <;> simp [Device.stepped, Device.setCtx, PerChannel.set]
    · simpa using hy.imp And.right And.right
  | @produced c res y q smooth hh hg hm hb ha hq =>
    obtain ⟨hy, st, n, k, b, hcc⟩ := Context.yields_frame hm
    have hc : c.hoverCount = c1.hoverCount := by rw [hcc]; rfl
    have hheld : heldBack d.scan.divisor c y = false := by
      simp [heldBack, Yield.plainHover, hc]; simpa [Context.holds, and_assoc] using hb
    rw [key hh hg, Context.transition_yields hm]
    have ha' : ∀ (k : BitVec 32) (c : Context), ((d.tallied k).setCtx ch c).map.state = .absent := fun _ _ => ha
    simp only [hheld, Bool.false_eq_true, if_false, ha', if_true]
    have hmade : ∀ m : Device, m.board = d.board → m.ctx ch = c → computedRecord m.board (m.ctx ch)
        { ch := ch, results := r, profile := res.profile, yield := y, unlisted := res.unlisted, got := [] } true
        = ({ q with flags := { q.flags with gap := false } }, smooth) := by
      intro m h1 h2
      rw [h1, h2, hcc, computedRecord_absent, ← hcc, hq]
    rw [finishJob_unlent (hu _ _) hl _ _ (hmade _ rfl (Device.ctx_setCtx_same _ _ _))]
    simp only [Device.ctx_setCtx_same]
    have e1 : c.gap = c1.gap := by rw [hcc]; rfl
    have e2 : c.seq = c1.seq := by rw [hcc]; rfl
    have e3 : q.flags.gap = c1.gap := by rw [← (Prod.mk.inj hq).1]
    have e4 : (if c.gap = true then Record.withGap { q with flags := { q.flags with gap := false } }
        else { q with flags := { q.flags with gap := false } }) = q := by
      rw [e1, ← e3]
      rcases q with ⟨_, _, _, ⟨g⟩⟩
      cases g <;> simp [Record.withGap]
    rw [e4, e2, Context.updatePeaks_of_near]
    · cases ch <;> simp [Device.stepped, Device.setCtx, PerChannel.set]
    · simpa using hy.imp And.right And.right
  | @givenUp res hh hg hs hp hc =>
    have ht : (c1.resolved res).transition res.profile r.tipX.peakAmp r.tipY.peakAmp r.r.toNat = .giveUp := by
      unfold reaches at hp
      simp [Context.transition, Context.resolved, hs, Nat.not_lt.2 hc]; omega
    rw [key hh hg, ht]
    simp only [produceProxOut]
    rw [produce_unlent (hu _ _) hl, finishStep_unlent]
    · simp only [proxOutRecord, Device.ctx_setCtx_same]
      have e2 : c1.state = (d.ctx ch).state := by have h2 := congrArg Context.state (Context.hears_frame hh); exact h2
      have hf := farewell_eq (m := (d.tallied (d.fails ch c1)).setCtx ch (c1.resolved res))
        (ch := ch) (r := r) (by rw [← hs, e2]; exact hg) (Device.ctx_setCtx_same _ _ _) hs
      simp only [proxOutRecord] at hf
      rw [hf]
      have hx : ∀ c : Context, c.state = .search → c.updatePeaks r res.profile.prox = c := fun c hc =>
        Context.updatePeaks_of_away _ _ (by simp [hc])
      generalize c1.farewell ch r res.unlisted = q
      cases ch <;> simp [Device.stepped, Device.setCtx, Device.ctx, PerChannel.set, PerChannel.get, Context.forget, hx,
        Context.resolved]
    · exact (hu 0 c1).keep rfl rfl rfl rfl

/-- A step depends on the channel's context, the profiles, the divisor, the map state and the board alone. -/
theorem Device.steps_of_eq {d d' : Device} {ch : Channel} {r : FrameResults} {c1 c : Context} {q : Option Record}
    (hc : d'.ctx ch = d.ctx ch) (hp : d'.profiles = d.profiles) (hs : d'.scan.divisor = d.scan.divisor)
    (hm : d'.map.state = d.map.state) (hb : d'.board = d.board) (h : d.Steps ch r c1 c q) : d'.Steps ch r c1 c q := by
  cases h with
  | silent hh hg hv => exact .silent (hc ▸ hh) (by rw [hc, hp]; exact hg) hv
  | heldBack hh hg hv hb' => exact .heldBack (hc ▸ hh) (by rw [hc, hp]; exact hg) hv (by rw [hs]; exact hb')
  | produced hh hg hv hb' ha hq =>
    exact .produced (hc ▸ hh) (by rw [hc, hp]; exact hg) hv (by rw [hs]; exact hb') (by rw [hm]; exact ha)
      (by unfold Device.uncorrected at hq ⊢; rw [hb]; exact hq)
  | givenUp hh hg ht hv hk => rw [← hp]; exact .givenUp (hc ▸ hh) (by rw [hc, hp]; exact hg) ht hv hk

/-- A channel of Device.Ends is stepped, and the next one follows. -/
theorem runSteps_ends {d s : Device} {f : Frame} {realign : Bool} {rest : List Channel} {ch : Channel} {c : Context}
    {q : Option Record} {n : BitVec 32} (hc : d.ctx ch = s.ctx ch) (hp : d.profiles = s.profiles)
    (hs : d.scan.divisor = s.scan.divisor) (hm : d.map.state = s.map.state) (hb : d.board = s.board)
    (hu : f.results ch ≠ none → d.Unlent ∧ d.delivery.holding.length < 47) (he : s.Ends f ch c q n) :
    runSteps (ch :: rest) f realign d = runSteps rest f realign (d.stepped ch c q n) := by
  cases he with
  | unheard h =>
    rw [runSteps, h]; simp only
    congr 1
    rw [← hc]
    cases ch <;> simp [Device.stepped, Device.setCtx, PerChannel.set, Device.ctx, PerChannel.get]
  | heard h hst =>
    obtain ⟨h1, h2⟩ := hu (by simp [h])
    rw [runSteps, h]
    simp only [stepChannel_steps h1 h2 (Device.steps_of_eq hc hp hs hm hb hst), Device.fails, hc]

end Sys2Proof.Machine
end

