-- ==== Sys2Proof/Laws/Kept.lean ====
section
/-!
SUPPORT. What the Link Port, the Delivery Unit, the Map Arbiter and a fault leave as it was: one value, Device.kept, and
for each shared operation the one lemma that it keeps it.
-/
namespace Sys2Proof.Machine

open Sys2Proof

/-- The CONTROL fields and TABLE BASE. -/
structure KeptRegs where
  run : Bool
  intake : Bool
  batch : Bool
  mask : BitVec 4
  base : Addr

/-- What the units that settle after an event never touch. -/
structure Kept where
  board : Board
  scan : ScanEngine
  chans : PerChannel Context
  profiles : Profiles
  clock : Micros
  regs : KeptRegs
  inputs : LinkInputs
  sweepElapsed : Nat
  rotation : Fin 32
  scrubElapsed : Nat
  cursor : Nat
  mapState : MapState

/-- The kept registers of a part. -/
def Registers.kept (r : Registers) : KeptRegs where
  run := r.run
  intake := r.intake
  batch := r.batch
  mask := r.mask
  base := r.tableBase

/-- The kept values of a part. -/
def Device.kept (d : Device) : Kept where
  board := d.board
  scan := d.scan
  chans := d.chans
  profiles := d.profiles
  clock := d.clock
  regs := d.regs.kept
  inputs := d.link.inputs
  sweepElapsed := d.intake.elapsed
  rotation := d.intake.rotation
  scrubElapsed := d.map.scrubElapsed
  cursor := d.map.cursor
  mapState := d.map.state

/-! ### EVENT and the interrupt -/

@[simp] theorem kept_messageDue (d : Device) : (messageDue d).kept = d.kept := by
  unfold messageDue; split <;> rfl

@[simp] theorem kept_testInterrupt (h : Bool) (d : Device) : (testInterrupt h d).kept = d.kept := by
  unfold testInterrupt; split
  · cases h
    · simp only [Bool.false_eq_true, if_false]; split <;> simp
    · rfl
  · rfl

@[simp] theorem kept_setCause (c : Cause) (d : Device) : (setCause c d).kept = d.kept := by
  simp only [setCause, setEventMask, kept_testInterrupt]; rfl

@[simp] theorem kept_sendPending (d : Device) : (sendPending d).kept = d.kept := by
  unfold sendPending; split <;> rfl

/-! ### Slot writes, captures and the drain -/

@[simp] theorem kept_handOver (ws : List HostWrite) (d : Device) : (handOver ws d).kept = d.kept := rfl
@[simp] theorem kept_completeSlot (s : Fin 32) (st : Status) (dt : Detail) (fs : List Byte) (d : Device) :
    (completeSlot s st dt fs d).kept = d.kept := rfl
@[simp] theorem kept_enterBuffer (w : HostWrite) (d : Device) : (enterBuffer w d).kept = d.kept := rfl
@[simp] theorem kept_setMark (m : SlotMark) (d : Device) : (setMark m d).kept = d.kept := rfl
@[simp] theorem kept_clearMark (s : Fin 32) (d : Device) : (clearMark s d).kept = d.kept := rfl
@[simp] theorem kept_setHolding (q : List Record) (d : Device) : (setHolding q d).kept = d.kept := rfl
@[simp] theorem kept_putCapture (c : Capture) (d : Device) : (putCapture c d).kept = d.kept := rfl
@[simp] theorem kept_countDelivered (ch : Channel) (d : Device) : (countDelivered ch d).kept = d.kept := rfl
@[simp] theorem kept_countLost (ch : Channel) (d : Device) : (countLost ch d).kept = d.kept := rfl
@[simp] theorem kept_completeCapture (c : Capture) (r : Reason) (d : Device) : (completeCapture c r d).kept = d.kept := rfl

@[simp] theorem kept_settleCapture (c : Capture) (r : Record) (d : Device) : (settleCapture c r d).kept = d.kept := by
  unfold settleCapture; split <;> simp

@[simp] theorem kept_placeIn (c : Capture) (r : Record) (d : Device) : (placeIn c r d).kept = d.kept := by
  simp [placeIn]

theorem kept_drainGo (q : List Record) : ∀ (b : PerChannel Bool) (d : Device), (drainGo q b d).2.kept = d.kept := by
  induction q with
  | nil => intro b d; rfl
  | cons r rest ih =>
    intro b d
    unfold drainGo
    split
    · exact ih _ _
    · split
      · exact ih _ _
      · split
        · rw [ih]; simp
        · rfl

@[simp] theorem kept_drainWalk (d : Device) : (drainWalk d).kept = d.kept := by
  unfold drainWalk; split
  · rfl
  · simp [kept_drainGo]

/-! ### The Trace Unit -/

@[simp] theorem kept_setTrace (t : Option TraceJob) (d : Device) : { d with trace := t }.kept = d.kept := rfl
@[simp] theorem kept_setExec (p : Option CurrentPost) (d : Device) : { d with exec := p }.kept = d.kept := rfl

@[simp] theorem kept_endTrace (st : Status) (dt : Detail) (t : TraceJob) (d : Device) :
    (endTrace st dt t d).kept = d.kept := rfl

@[simp] theorem kept_stageOut (t : TraceJob) (f : TraceFrame) (rest : List TraceFrame) (d : Device) :
    (stageOut t f rest d).kept = d.kept := by
  unfold stageOut; simp only; split <;> rfl

/-! ### The Map Arbiter and the Executor -/

@[simp] theorem kept_completePost (st : Status) (dt : Detail) (fs : List Byte) (d : Device) :
    (completePost st dt fs d).kept = d.kept := by
  unfold completePost; split <;> rfl

@[simp] theorem kept_setWork (w : Work) (d : Device) : (setWork w d).kept = d.kept := rfl
@[simp] theorem kept_endGrant (d : Device) : (endGrant d).kept = d.kept := rfl
@[simp] theorem kept_withdrawExec (d : Device) : (withdrawExec d).kept = d.kept := rfl

@[simp] theorem kept_grantWrite (d : Device) : (grantWrite d).kept = d.kept := by
  unfold grantWrite; split
  · split <;> rfl
  · rfl

@[simp] theorem kept_grantTo (w : Requester) (d : Device) : (grantTo w d).kept = d.kept := by
  cases w
  · rfl
  · exact kept_grantWrite d
  · rfl

@[simp] theorem kept_arbitrate (d : Device) : (arbitrate d).kept = d.kept := by
  unfold arbitrate; split
  · rfl
  · split <;> simp

@[simp] theorem kept_requestExec (d : Device) : (requestExec d).kept = d.kept := by
  simp only [requestExec, kept_arbitrate]; rfl

@[simp] theorem kept_requestSolver (d : Device) : (requestSolver d).kept = d.kept := by
  simp only [requestSolver, kept_arbitrate]; rfl

@[simp] theorem kept_countOutcome (o : ReadOutcome) (d : Device) : (countOutcome o d).kept = d.kept := by
  cases o <;> rfl

@[simp] theorem kept_offerLog (n : Nat) (r : NodeRead) (s : Requester) (d : Device) :
    (offerLog n r s d).kept = d.kept := by
  unfold offerLog; split
  · rfl
  · split
    · rfl
    · simp only [kept_setCause]; rfl

@[simp] theorem kept_noteRead (n : Nat) (r : NodeRead) (s : Requester) (d : Device) :
    (noteRead n r s d).kept = d.kept := by
  simp [noteRead]

@[simp] theorem kept_answerExec (g : Grant) (d : Device) : (answerExec g d).kept = d.kept := by
  unfold answerExec; split <;> simp

@[simp] theorem kept_bulkMapRead (w : MapReadWork) (d : Device) : (bulkMapRead w d).kept = d.kept := by
  unfold bulkMapRead; simp only; split <;> simp

@[simp] theorem kept_bulkCounters (a : Addr) (c : Bool) (d : Device) : (bulkCounters a c d).kept = d.kept := by
  unfold bulkCounters; cases c
  · simp
  · simp only [if_true, kept_completePost]; rfl

theorem kept_bulkGrant {d d' : Device} (h : bulkGrant d = some d') : d'.kept = d.kept := by
  unfold bulkGrant at h
  split at h
  · split at h
    · cases h; simp
    · cases h
  · cases h; simp
  · cases h

/-! ### The Link Port -/

@[simp] theorem kept_enterSlotWrite (w : HostWrite) (rest : List HostWrite) (d : Device) :
    (enterSlotWrite w rest d).kept = d.kept := by
  unfold enterSlotWrite; simp only; split <;> rfl

theorem kept_grantBelowDrain {d d' : Device} (h : grantBelowDrain d = some d') : d'.kept = d.kept := by
  unfold grantBelowDrain at h
  split at h
  · cases h; simp
  · split at h
    · split at h
      · cases h; simp
      · exact kept_bulkGrant h
    · exact kept_bulkGrant h

@[simp] theorem kept_offerDrain (d : Device) : (offerDrain d).kept = d.kept := by
  unfold offerDrain; split <;> simp

theorem kept_grantOne {d d' : Device} (h : grantOne d = some d') : d'.kept = d.kept := by
  unfold grantOne at h; split at h
  · exact kept_grantBelowDrain h
  · cases h

@[simp] theorem kept_grantEntries (n : Nat) : ∀ d : Device, (grantEntries n d).kept = d.kept := by
  induction n with
  | zero => intro d; rfl
  | succ n ih =>
    intro d
    unfold grantEntries
    split
    · next h => rw [ih, kept_grantOne h, kept_offerDrain]
    · simp

@[simp] theorem kept_grants (d : Device) : (grants d).kept = d.kept := kept_grantEntries 4 d

@[simp] theorem kept_finishExecGrant (d : Device) : (finishExecGrant d).kept = d.kept := by
  unfold finishExecGrant; split
  · split <;> simp
  · rfl

@[simp] theorem kept_failExec (d : Device) : (failExec d).kept = d.kept := by
  unfold failExec; split <;> simp

@[simp] theorem kept_faultExec (d : Device) : (faultExec d).kept = d.kept := by
  unfold faultExec; split <;> simp

@[simp] theorem kept_faultTrace (d : Device) : (faultTrace d).kept = d.kept := by
  unfold faultTrace; split <;> simp

@[simp] theorem kept_faultSweep (d : Device) : (faultSweep d).kept = d.kept := rfl

@[simp] theorem kept_pauseTimers (d : Device) : (pauseTimers d).kept = d.kept := rfl

/-- The entry into HALTED leaves the kept values as they were. -/
@[simp] theorem kept_enterHalted (d : Device) : (enterHalted d).kept = d.kept := by
  simp only [enterHalted, kept_grants, kept_faultTrace, kept_pauseTimers, kept_faultExec, kept_faultSweep]; rfl

@[simp] theorem kept_recordFault (c : FaultClass) (s : Site) (sl : Option (Fin 32)) (d : Device) :
    (recordFault c s sl d).kept = d.kept := by
  unfold recordFault; split <;> rfl

/-- A fault leaves the kept values as they were. -/
@[simp] theorem kept_raiseFault (c : FaultClass) (s : Site) (sl : Option (Fin 32)) (d : Device) :
    (raiseFault c s sl d).kept = d.kept := by
  simp [raiseFault]

@[simp] theorem kept_raiseBlocked (s : Site) (sl : Option (Fin 32)) (d : Device) :
    (raiseBlocked s sl d).kept = d.kept := by
  have h : (blockedClass d).2.kept = d.kept := by
    unfold blockedClass; split
    · rfl
    · split <;> rfl
  simp [raiseBlocked, h]

@[simp] theorem kept_issueHead (d : Device) : (issueHead d).kept = d.kept := by
  unfold issueHead; split
  · rfl
  · split
    · rfl
    · split <;> simp

/-- The settling of the Link Port leaves the kept values as they were. -/
@[simp] theorem kept_settleLink (d : Device) : (settleLink d).kept = d.kept := by
  simp [settleLink]

@[simp] theorem kept_issueRead (r : ReadReq) (d : Device) : (issueRead r d).kept = d.kept := by
  unfold issueRead; split
  · rfl
  · simp

@[simp] theorem kept_pumpReads (d : Device) : (pumpReads d).kept = d.kept := by
  unfold pumpReads; split
  · rfl
  · split
    · rfl
    · simp only [kept_issueRead]; rfl

@[simp] theorem kept_requestRead (r : ReadReq) (d : Device) : (requestRead r d).kept = d.kept := by
  unfold requestRead; split
  · rfl
  · simp only [kept_pumpReads]; rfl

/-! ### Sweeps -/

@[simp] theorem kept_setSweep (sw : Option Sweep) (d : Device) : (setSweep sw d).kept = d.kept := rfl

@[simp] theorem kept_startSweep (d : Device) : (startSweep d).kept = d.kept := by
  unfold startSweep; simp only; split <;> simp

@[simp] theorem kept_endSweep (d : Device) : (endSweep d).kept = d.kept := by
  unfold endSweep; simp only; split
  · simp only [kept_startSweep]; rfl
  · rfl

@[simp] theorem kept_sweepDone (d : Device) : (sweepDone d).kept = d.kept := by
  unfold sweepDone; split <;> simp

@[simp] theorem kept_sweepEntryLeft (d : Device) : (sweepEntryLeft d).kept = d.kept := by
  unfold sweepEntryLeft; split
  · split
    · split <;> simp
    · rfl
  · rfl

end Sys2Proof.Machine
end

