-- ==== Sys2Proof/Laws/Memory.lean ====
section
/-!
SUPPORT. The node memory: every operation on it keeps its canonical form.
-/
namespace Sys2Proof.Machine

open Sys2Proof

/-- A list in canonical form from lo is in canonical form from anything lower. -/
theorem wfFrom_mono {m : NodeMem} {lo lo' : Nat} (h : lo' ≤ lo) (hm : wfFrom lo m = true) : wfFrom lo' m = true := by
  cases m with
  | nil => rfl
  | cons e rest =>
    obtain ⟨j, w⟩ := e
    simp only [wfFrom, Bool.and_eq_true, decide_eq_true_eq] at hm ⊢
    exact ⟨⟨by omega, hm.1.2⟩, hm.2⟩

theorem wfFrom_writeNode (w : NodeWord) : ∀ (m : NodeMem) (lo i : Nat),
    lo ≤ i → wfFrom lo m = true → wfFrom lo (writeNode m i w) = true := by
  intro m
  induction m with
  | nil =>
    intro lo i h _
    unfold writeNode
    split
    · rfl
    · next hw => simp [wfFrom, h, hw]
  | cons e rest ih =>
    obtain ⟨j, v⟩ := e
    intro lo i h hm
    simp only [wfFrom, Bool.and_eq_true, decide_eq_true_eq] at hm
    unfold writeNode
    split
    · next hlt =>
      split
      · simp [wfFrom, hm.1.1, hm.1.2, hm.2]
      · next hw => simp [wfFrom, h, hw, hm.1.2, hm.2, Nat.succ_le_of_lt hlt]
    · split
      · next he =>
        subst he
        split
        · exact wfFrom_mono (by omega) hm.2
        · next hw => simp [wfFrom, h, hw, hm.2]
      · next h1 h2 =>
        have hij : j + 1 ≤ i := by omega
        simp [wfFrom, hm.1.1, hm.1.2, ih (j + 1) i hij hm.2]

theorem all_writeNode (w : NodeWord) (p : Nat → Bool) {i : Nat} (hi : p i = true) : ∀ m : NodeMem,
    m.all (fun e => p e.1) = true → (writeNode m i w).all (fun e => p e.1) = true := by
  intro m
  induction m with
  | nil => intro _; unfold writeNode; split <;> simp [hi]
  | cons e rest ih =>
    obtain ⟨j, v⟩ := e
    intro hm
    simp only [List.all_cons, Bool.and_eq_true] at hm
    unfold writeNode
    split
    · split <;> simp [hi, hm.1, hm.2]
    · split
      · split
        · exact hm.2
        · simp [hi, hm.2]
      · simp [hm.1, ih hm.2]

/-- A node write keeps the canonical form. -/
theorem wf_storeNode {m : NodeMem} (i : Nat) (w : NodeWord) (h : NodeMem.wf m = true) :
    NodeMem.wf (storeNode m i w) = true := by
  unfold storeNode
  split
  · next hi =>
    simp only [NodeMem.wf, Bool.and_eq_true] at h ⊢
    exact ⟨wfFrom_writeNode w m 0 i (Nat.zero_le _) h.1,
      all_writeNode w (fun j => decide (j < 1024)) (by simpa using hi) m h.2⟩
  · exact h

/-- The node memory after power-on is in canonical form. -/
theorem wf_initial : NodeMem.wf CorrectionMap.initial.nodes = true := rfl

end Sys2Proof.Machine
end

