-- ==== Sys2Proof/Laws/Posts.lean ====
section
/-!
SUPPORT. What a post row does: nothing, or the completion of the body read that a sweep waits for at its slot.
-/
namespace Sys2Proof.Machine

open Sys2Proof

/-- A sweep that waits for a body, as its phase and its strip word say it. -/
theorem awaitsBody_iff (d : Device) (slot : Fin 32) (kind : Byte) :
    d.awaitsBody slot kind = true ↔ ∃ sw rest f, d.intake.sweep = some sw ∧ sw.phase = .body slot rest
      ∧ stripKind (sw.snapshot.getD slot.val 0) = kind ∧ d.link.inFlight = some f ∧ f.req.site = .body := by
  unfold Device.awaitsBody
  cases hs : d.intake.sweep with
  | none => simp
  | some sw => cases hf : d.link.inFlight with
    | none => simp
    | some f => cases hp : sw.phase with
      | body k rest => simp [Sweep.mark, hp]; grind
      | _ => simp [hp]

/-- A part whose sweep waits at the slot settles it and goes on. -/
theorem postFound_awaited {d : Device} {sw : Sweep} {slot : Fin 32} {rest : List (Fin 32)} (notify : Bool) {p : Post}
    (hw : d.awaitsBody slot (postKind p) = true) (hs : d.intake.sweep = some sw) (hp : sw.phase = .body slot rest) :
    postFound slot notify p d
      = afterRead (sweepGoesOn rest (endRead d) (settleBody (sw.mark slot notify) (some p) (endRead d))) := by
  simp [postFound, hw, bodyComplete, endRead, hs, hp]

/-- A part whose sweep does not wait at the slot has read no such post. -/
theorem postFound_unawaited {d : Device} {slot : Fin 32} (notify : Bool) {p : Post}
    (h : d.awaitsBody slot (postKind p) = false) : postFound slot notify p d = d := by simp [postFound, h]

/-- A part that finds the post handles it, unless its unit has no room: the mark is the one of R136. -/
theorem postFound_finds {d : Device} {slot : Fin 32} (notify : Bool) {p : Post} (h : d.Finds slot (postKind p)) :
    ∃ rest, (d.regs.batch = false ∨ rest = []) ∧ postFound slot notify p d
      = afterRead (sweepGoesOn rest (endRead d) (settlePost (d.foundMark slot (postKind p) notify) p (endRead d))) := by
  obtain ⟨sw, rest, f, hs, hp, hk, hf, hb, hr⟩ := h.waits
  refine ⟨rest, hr, ?_⟩
  rw [postFound_awaited notify ((awaitsBody_iff d slot _).2 ⟨sw, rest, f, hs, hp, hk, hf, hb⟩) hs hp]
  have hm : sw.mark slot notify = d.foundMark slot (postKind p) notify := by
    simp only [Sweep.mark, Device.foundMark, Device.sweepBase, hs, hk]
  have hc : (endRead d).isInFlight slot = false := h.clear
  rw [settleBody, hm]
  simp [Device.foundMark, hc]

end Sys2Proof.Machine
end

