-- ==== Sys2Proof/Laws/Reads.lean ====
section
/-!
SUPPORT. A cause set in EVENT, and a node read, said once: the model's are what Device.Raises and Device.Notes say.
-/
namespace Sys2Proof.Machine

open Sys2Proof

/-- A cause set in EVENT is what Device.Raises says. -/
theorem setCause_raises {d d' : Device} {c : Cause} (h : d.Raises c.bits d') : setCause c d = d' := by
  cases h with
  | untold hi =>
    simp only [setCause, setEventMask, testInterrupt, Registers.condition, bne_iff_ne, ne_eq]
    split
    · split
      · simp_all
      · split <;> simp_all
    · simp_all
  | told hi hn hm hl =>
    simp [setCause, setEventMask, testInterrupt, Registers.condition, messageDue, sendMessage, hn, hi,
      LinkPort.canIssue, hl.1, hl.2]
    exact fun h => absurd h hm
  | kept hi hn hm hl =>
    simp [setCause, setEventMask, testInterrupt, Registers.condition, messageDue, hn, hi, LinkPort.canIssue, hl]
    exact fun h => absurd h hm

/-- A cause set in EVENT touches EVENT, the pending message and what has gone out, and nothing else. -/
theorem Device.raises_frame {d d' : Device} {bits : BitVec 4} (h : d.Raises bits d') :
    d' = { d with
      link := { d.link with sent := d'.link.sent }
      regs := { d.regs with event := d.regs.event ||| bits, msgPending := d'.regs.msgPending } } := by
  cases h <;> rfl

/-- The head's leaving, and EVENT.DONE with it, is what Device.Accepts says. -/
theorem doneCause_accepts {d d' : Device} {w : HostWrite} {rest : List HostWrite} (h : d.Accepts w rest d') :
    doneCause w (popHead w rest d) = d' := by
  cases h with
  | plain h =>
    unfold doneCause
    split
    · next slot hr => exact absurd hr (h slot)
    · rfl
  | notifies slot h hr =>
    simp only [doneCause, h]
    exact setCause_raises (c := .done) hr

/-- What the head's leaving keeps. -/
theorem Device.accepts_frame {d d' : Device} {w : HostWrite} {rest : List HostWrite} (h : d.Accepts w rest d') :
    d' = { d with
      link := { d.link with buffer := rest, issued := false, sent := d'.link.sent }
      regs := { d.regs with event := d'.regs.event, msgPending := d'.regs.msgPending } } := by
  cases h with
  | plain => rfl
  | notifies slot _ hr => cases hr <;> rfl

/-- The bits set in a word with one bit or two. -/
theorem twoPow_bits (b c : Fin 39) : ∀ k < 39,
    (BitVec.twoPow 39 b.val ||| BitVec.twoPow 39 c.val).getLsbD k = (k == b.val || k == c.val) := by
  intro k hk
  simp [hk]
  grind

/-- Of the first n numbers, two different ones are two. -/
theorem length_filter_pair {b c : Nat} (h : b ≠ c) : ∀ n, ((List.range n).filter fun k => k == b || k == c).length
    = bit (decide (b < n)) + bit (decide (c < n)) := by
  intro n
  induction n with
  | zero => simp [bit]
  | succ n ih =>
    rw [List.range_succ, List.filter_append, List.length_append, ih]
    by_cases h1 : n = b
    · subst h1; have : (n == c) = false := by simpa using h
      have h2 : c < n + 1 ↔ c < n := by omega
      simp [bit, h2]; omega
    · by_cases h2 : n = c
      · subst h2
        have h3 : b < n + 1 ↔ b < n := by omega
        simp [bit, h3]
      · have h3 : b < n + 1 ↔ b < n := by omega
        have h4 : c < n + 1 ↔ c < n := by omega
        simp [h1, h2, h3, h4]

/-- Two different bits are two. -/
theorem flipCount_pair {b c : Fin 39} (h : b ≠ c) :
    flipCount (BitVec.twoPow 39 b.val ||| BitVec.twoPow 39 c.val) = 2 := by
  unfold flipCount
  rw [List.filter_congr (q := fun k => k == b.val || k == c.val)
    (fun k hk => twoPow_bits b c k (List.mem_range.1 hk)), length_filter_pair (by omega)]
  simp [bit]

/-- One bit is one, at its place. -/
theorem flipCount_one (b : Fin 39) :
    flipCount (BitVec.twoPow 39 b.val) = 1 ∧ flipAt (BitVec.twoPow 39 b.val) = b.val := by
  revert b; decide

/-- A read of a node counts and logs its outcome as Device.Notes says. -/
theorem noteRead_notes {d d' : Device} {node : Nat} {w : NodeWord} {who : Requester} {o : ReadOutcome}
    (h : d.Notes node w who o d') : w.check.outcome = o ∧ noteRead node w.check who d = d' := by
  have offered : ∀ (x : Device) (r : NodeRead) (d' : Device), r.outcome ≠ .clean →
      x.Offered { node := node, outcome := r.outcome, bit := r.bit, source := who } d' → offerLog node r who x = d' := by
    intro x r d' hr ho
    unfold offerLog
    rw [if_neg hr]
    split
    · next h => cases ho with
      | full => rfl
      | first h' => simp_all
    · next h => cases ho with
      | full h' => exact absurd h h'
      | first _ hr => exact setCause_raises (c := .mapErr) hr
  cases h with
  | clean h => simp [NodeWord.check, NodeWord.verdict, h, flipCount, noteRead, countOutcome, offerLog]
  | corrected b h ho =>
    have hv : w.verdict = .corrected b := by
      simp [NodeWord.verdict, h, (flipCount_one b).1, (flipCount_one b).2]
    have h1 : w.check.outcome = .corrected := by simp [NodeWord.check, hv]
    have h2 : w.check.bit = b.val := by simp [NodeWord.check, hv]
    refine ⟨h1, offered _ _ _ (by simp [h1]) ?_⟩
    rw [h1, h2]; exact ho
  | uncorrectable b c hbc h ho =>
    have hv : w.verdict = .uncorrectable := by simp [NodeWord.verdict, h, flipCount_pair hbc]
    have h1 : w.check.outcome = .uncorrectable := by simp [NodeWord.check, hv]
    have h2 : w.check.bit = 127 := by simp [NodeWord.check, hv]
    refine ⟨h1, offered _ _ _ (by simp [h1]) ?_⟩
    rw [h1, h2]; exact ho

end Sys2Proof.Machine
end

