-- ==== Sys2Proof/Tests/Slice0.lean ====
section
/-!
SUPPORT. The model's own tests: ill-formed commands that WellFormed refuses, the manual's worked examples, and for every
obligation with hypotheses a concrete state and operands that meet them (witness_<the obligation's name>, with a suffix
where its clauses need states of their own).
-/
namespace Sys2Proof.Tests

open Sys2Proof Sys2Proof.Machine

/-! ### Ill-formed commands are refused by WellFormed -/

theorem test_wf_run_set_needs_run : (Instr.runSet 0).wf = false := by decide
theorem test_wf_run_set_without_reset : (Instr.runSet 0x11).wf = false := by decide
theorem test_wf_run_clear_needs_run_0 : (Instr.runClear 1).wf = false := by decide
theorem test_wf_intake_set_needs_intake : (Instr.intakeSet 1).wf = false := by decide
theorem test_wf_intake_clear_needs_intake_0 : (Instr.intakeClear 2).wf = false := by decide
theorem test_wf_batch_without_reset : (Instr.batch 0x10).wf = false := by decide
theorem test_wf_mask_write_without_reset : (Instr.maskWrite 0x10).wf = false := by decide
theorem test_wf_resume_needs_resume : (Instr.resume 0).wf = false := by decide
theorem test_wf_soft_reset_needs_reset : (Instr.softReset 0).wf = false := by decide
theorem test_wf_discarded_not_control : (Instr.discardedRegisterWrite 0x04 4 0).wf = false := by decide
theorem test_wf_discarded_not_table_base : (Instr.discardedRegisterWrite 0x20 8 0).wf = false := by decide
theorem test_wf_discarded_has_width : (Instr.discardedRegisterWrite 0x00 0 0).wf = false := by decide
theorem test_wf_window_widths : (Instr.windowResult .a (.tip [0] [0] 0)).wf = false := by decide
theorem test_wf_strip_length : (Instr.stripReadComplete [1]).wf = false := by decide
theorem test_wf_body_length : (Instr.bodyReadComplete [1]).wf = false := by decide
theorem test_wf_block_length : (Instr.profileBlockReadComplete [1]).wf = false := by decide
theorem test_wf_piece_length : (Instr.mapPieceReadComplete [1]).wf = false := by decide
theorem test_wf_stale_length : (Instr.staleReadCompletion (List.replicate 129 0)).wf = false := by decide +kernel
theorem test_wf_tick_takes_time : (Instr.strokeClockTick 0).wf = false := by decide

/-- The table gives no row any bits, so no word spells a command. -/
theorem test_no_word_is_a_command : decodeTableWord 32 0x3280 = none := by decide

/-! ### Worked examples of the manual -/

/-- A part of nine loops with these three amplitudes in its middle. -/
def midPart (origin : Nat) (am a0 ap : Amp) : PartResult where
  origin := origin
  amps := [1, 1, 1, am, a0, ap, 1, 1, 1]

/-- Section 3.8: a window edge that is no grid edge mirrors its neighbour. -/
theorem test_window_edge :
    interpolate 128 { origin := 56, amps := [40000, 30000, 1, 1, 1, 1, 1, 1, 1] }
      = { raw := 14464, a0 := 40000, edge := true } := by decide

/-- Section 3.8: at a grid edge the missing neighbour counts as silence, on the left and on the right. -/
theorem test_grid_edges :
    (interpolate 128 { origin := 0, amps := [50000, 20000, 1, 1, 1, 1, 1, 1, 1] }).raw = 160
    ∧ interpolate 128 { origin := 119, amps := [1, 1, 1, 1, 1, 1, 1, 20000, 50000] }
      = { raw := 32608, a0 := 50000, edge := false } := by decide

/-- Section 3.8: a tie with the upper neighbour puts the crest on the boundary between the two loops. -/
theorem test_tie : (interpolate 128 (midPart 36 10000 40000 40000)).raw = 10496 := by decide

/-- Section 3.9: the frame results of the worked case. -/
def workedFrame : FrameResults where
  tipX := midPart 36 21000 52000 38000
  tipY := midPart 16 30000 50000 26000
  ringX := midPart 38 20000 30000 18000
  ringY := midPart 16 24000 30000 16000
  r := 1130
  symbol := .none
  timeTag := 0
  slipped := false

/-- Section 3.9: the profile of the worked case. -/
def workedProfile : Profile := { Profile.builtIn with k := 2 }

/-- The largest grid (R1). -/
def bigBoard : Board := { nx4 := 32, ny4 := 18, bFitted := true, falling := false }

/-- Section 3.9: tilt and biased position. -/
theorem test_worked_stages :
    stages bigBoard workedFrame workedProfile
      = { x := 10303, y := 5247, tiltX := 490, tiltY := -38, edgeX := false, edgeY := false, clip := false,
          noTilt := false, tiltLimit := false } := by decide +kernel

/-- Section 3.9: the four nodes of the cell. -/
theorem test_worked_nodes : (List.range 4).map (cellNode bigBoard 10303 5247) = [175, 176, 208, 209] := by decide +kernel

/-- Section 3.9: the corrected position. -/
theorem test_worked_correction :
    correctPoint bigBoard 10303 5247
      [⟨12, -6, false⟩, ⟨20, -2, false⟩, ⟨8, -10, false⟩, ⟨16, 0, false⟩] = (10315, 5241) := by decide

/-- Section 3.9: the pressure and the smoothing state. -/
theorem test_worked_pressure : pressureStage workedProfile true false 1130 5200 = (5249, 5249) := by decide

/-- R33: the digits of the code 0x2A17 and of its check. -/
theorem test_tool_code :
    toolCode [0, 2, 2, 2, 0, 1, 1, 3, 1, 0] = 0x2A17 ∧ readingGood [0, 2, 2, 2, 0, 1, 1, 3, 1, 0] = true
    ∧ readingGood [0, 2, 2, 2, 0, 1, 1, 3, 1, 1] = false := by decide

/-- Section 5.2: the checking order of three blocks. -/
theorem test_checking_order :
    ({ Profile.builtIn with off := 80, on := 80, k := 5 } : Profile).firstBad = some 3
    ∧ ({ Profile.builtIn with rs := [40, 200, 200, 900, 1400, 2000, 2700, 3400, 4095] } : Profile).firstBad = some 6
    ∧ ({ Profile.builtIn with prox := 50, ps := [0, 600, 2000, 1, 6800, 9500, 12200, 14800, 16383] } : Profile).firstBad
      = some 1
    ∧ Profile.builtIn.firstBad = none := by decide

/-- Section 4.5: a flip in bit 20 of (16, 0) is stored as (16, 16) and read as CORRECTED, bit 20, (16, 0). -/
theorem test_one_flip :
    NodeWord.stored { cx := 16, cy := 0, flips := BitVec.twoPow 39 20 } = 0x00100010
    ∧ NodeWord.check { cx := 16, cy := 0, flips := BitVec.twoPow 39 20 }
      = { outcome := .corrected, cx := 16, cy := 0, bit := 20 } := by decide

/-- Section 4.3: the grants of the three requesters before grants 1, 2, 3 and 7. -/
theorem test_arbiter_example :
    let m : CorrectionMap := { CorrectionMap.initial with solverWaiting := true, execWaiting := true }
    ({ m with scrubWaiting := true, execPass := 6, scrubPass := 7 } : CorrectionMap).choose = some .solver
    ∧ ({ m with scrubWaiting := true, execPass := 7, scrubPass := 8 } : CorrectionMap).choose = some .scrubber
    ∧ ({ m with execPass := 8 } : CorrectionMap).choose = some .executor
    ∧ ({ m with solverWaiting := false, execPass := 3 } : CorrectionMap).choose = some .executor := by decide

/-! ### States for the witnesses -/

/-- A machine with this part and no command waiting. -/
def holding (d : Device) : State := { dev := d, pending := [] }

/-- The part after reset with bus mastering enabled. -/
def ready : Device :=
  { State.reset.dev with
    link := { State.reset.dev.link with inputs := { State.reset.dev.link.inputs with mastering := true } } }

/-- A part with nothing for the link to do, but perhaps with a read in flight. -/
theorem calm_of {d : Device} (hl : { d.link with inFlight := none } = ready.link) (hh : d.delivery.holding = [])
    (ht : ∀ t, d.trace = some t → t.staging = []) (hb : bulkGrant d = none) : d.Calm := by
  have h : ∀ {α : Type} (f : LinkPort → α), f { d.link with inFlight := none } = f ready.link := fun f => by rw [hl]
  exact ⟨h fun l => l.inputs.up, h fun l => l.inputs.mastering, h fun l => l.halted, h fun l => l.waiting,
    h fun l => l.buffer, h fun l => l.issued, h fun l => l.slotQueue, hh, ht, hb⟩

theorem ready_calm : ready.Calm := calm_of rfl rfl (fun _ h => nomatch h) rfl

/-- HALTED after reset, with mastering enabled. -/
def haltedDev : Device := { ready with link := { ready.link with halted := true } }

theorem halted_quiet : haltedDev.QuietWhenHalted := fun _ => ⟨rfl, rfl, rfl, rfl, rfl, rfl⟩

/-- A frame at 480 frames a second in which no channel has windows. -/
def emptyFrame : Frame := { timeTag := 5, slipped := false, period := 2083, wins := { a := none, b := none } }

/-- The engine at this time in emptyFrame, with RUN as given. -/
def inFrame (elapsed : Nat) (run : Bool) (d : Device) : Device :=
  { d with
    scan := { d.scan with engine := .running emptyFrame, elapsed := elapsed }
    regs := { d.regs with run := run } }

theorem inFrame_calm (n : Nat) (r : Bool) : (inFrame n r ready).Calm := calm_of rfl rfl (fun _ h => nomatch h) rfl

/-- Channel A's context in this state, its last peaks at loop 8. -/
def tracking (st : TrackState) (d : Device) : Device :=
  { d with chans := { d.chans with a :=
    { d.chans.a with state := st, peakTipX := 8, peakTipY := 8, peakRingX := 8, peakRingY := 8 } } }

/-- A read in flight for a site. -/
def reading (site : Site) (len : Nat) (d : Device) : Device :=
  { d with link := { d.link with inFlight := some { req := { site := site, slot := some 3, addr := 0, len := len }, elapsed := 0 } } }

/-- A sweep under base 0 in this phase. -/
def sweepIn (phase : SweepPhase) (d : Device) : Device :=
  { d with
    regs := { d.regs with intake := true }
    intake := { d.intake with
      sweep := some { base := 0, phase := phase, snapshot := [], held := [], ending := false } } }

/-- A sweep under 0x1000 waits for the body of slot 3, POSTED with this kind; no slot is left after it. -/
def awaiting (kind : Byte) (d : Device) : Device :=
  let sw : Sweep :=
    { base := 0x1000, phase := .body 3 [], snapshot := [0, 0, 0, (0 : BitVec 16) ++ kind ++ (1 : Byte)], held := [],
      ending := false }
  reading .body 64 { d with intake := { d.intake with sweep := some sw } }

/-- Such a sweep finds its slot, in a part with nothing for the link to do. -/
theorem finds_of {kind : Byte} {d : Device} (hk : stripKind ((0 : BitVec 16) ++ kind ++ (1 : Byte)) = kind)
    (hc : (awaiting kind d).Calm) (hp : d.intake.promptPending = false) (hf : (awaiting kind d).isInFlight 3 = false) :
    (awaiting kind d).Finds 3 kind :=
  ⟨hc, ⟨_, [], _, rfl, rfl, hk, rfl, rfl, .inr rfl⟩, hp, hf⟩

theorem awaiting_finds {kind : Byte} (hk : stripKind ((0 : BitVec 16) ++ kind ++ (1 : Byte)) = kind) :
    (awaiting kind ready).Finds 3 kind :=
  finds_of hk (calm_of rfl rfl (fun _ h => nomatch h) rfl) rfl rfl

theorem awaiting_open {kind : Byte} (hk : stripKind ((0 : BitVec 16) ++ kind ++ (1 : Byte)) = kind) :
    (awaiting kind ready).Open 3 kind := ⟨awaiting_finds hk, rfl⟩

/-- A TAKEN write of slot 3. -/
def aWrite : HostWrite := takenWrite { slot := 3, base := 0, kind := 1, notify := false }

/-- A capture at slot 3 for both channels. -/
def aCapture : Capture where
  slot := 3
  buffer := 0
  capacity := 4
  mask := { a := true, b := true }
  endOnLift := false
  endOnProxOut := false
  timeout := 1
  count := 1
  last := none
  elapsed := 1000

/-- A plain hover record of a channel. -/
def aRecord (ch : Channel) : Record where
  ch := ch
  state := .hover
  event := .none
  flags := {}
  stroke := 0
  timeTag := 0
  x := 0
  y := 0
  pressure := 0
  tiltX := 0
  tiltY := 0
  tool := 0
  seq := 0
  phase := 0

/-- A grant of node 3. -/
def granted (who : Requester) (flips : BitVec 39) (d : Device) : Device :=
  { d with map := { d.map with grant := some { who := who, node := 3, word := { cx := 1, cy := 2, flips := flips } } } }

/-- The Executor's current post, at slot 3. -/
def working (w : Work) (d : Device) : Device := { d with exec := some { slot := 3, work := w } }

/-- The trace held at slot 3, ARMED. -/
def aTrace : TraceJob where
  slot := 3
  ch := .a
  trigger := .immediate
  level := 0
  pre := 0
  post := 1
  dest := 0
  capturing := false
  ring := []
  staging := []
  toTake := 0
  written := 0
  preWritten := 0
  trigTag := none
  channelOff := false

/-- A computation of channel A that has had these reads answered. -/
def aJob (got : List Correction) : SolverJob where
  ch := .a
  results :=
    { tipX := midPart 0 1 9 1, tipY := midPart 0 1 9 1, ringX := midPart 0 1 9 1, ringY := midPart 0 1 9 1, r := 0,
      symbol := .none, timeTag := 0, slipped := false }
  profile := Profile.builtIn
  yield := { state := .hover, event := .none, strokeEnd := false }
  unlisted := false
  got := got

/-- A frame boundary that waits for the Solver's next read. -/
def inBoundary (got : List Correction) (d : Device) : Device :=
  { d with scan := { d.scan with engine := .boundary { frame := emptyFrame, realign := false, job := aJob got, todo := [] } } }

/-- A zero correction. -/
def zeroCorr : Correction := { cx := 0, cy := 0, bad := false }

/-! ### Witnesses: resets and registers -/

theorem witness_LinkResetValues :
    (Board.ofWord 0).nx = ready.board.nx ∧ (Board.ofWord 0).ny = ready.board.ny ∧ ready.map.grant = none
    ∧ (Board.ofWord 8).nx ≠ ready.board.nx := by decide

theorem witness_SoftResetValues : ready.map.grant = none := rfl

/-- Each clause of the passing of time: a frame in progress with the tracker in CENTRE or FREE, and a read in flight. -/
theorem witness_TickAgesTimers :
    let d := reading .sweep 128 (inFrame 0 true ready)
    d.scan.engine ≠ .stopped ∧ d.scan.tracker = .free ∧ d.link.halted = false ∧ d.link.inFlight ≠ none
    ∧ ({ d.scan with tracker := .centre } : ScanEngine).tracker ≠ .free
    ∧ ready.scan.engine = .stopped ∧ haltedDev.link.halted = true ∧ ready.link.inFlight = none := by decide

/-- A message pending with its cause set, messages enabled and the link taking accesses: the message is due. -/
theorem witness_StaleDataAndMessageEnable :
    let r : Registers := { ready.regs with event := 1, mask := 1, msgPending := true }
    r.msgPending = true ∧ r.event &&& r.mask ≠ 0 ∧ ready.link.inputs.up = true
    ∧ ready.link.inputs.mastering = true := by decide

theorem witness_ControlReadsAsWritten :
    ∀ i ∈ [Instr.runSet 0x701, .runClear 0x702, .intakeSet 0xF02, .intakeClear 0x005, .batch 0x004, .maskWrite 0xF00,
      .resume 0x008], i.wf = true := by decide

theorem witness_RunSetStartsFrame :
    (Instr.runSet 1).wf = true ∧ (1 : BitVec 32).getLsbD 3 = false ∧ (1 : BitVec 32).getLsbD 1 = ready.regs.intake
    ∧ (inFrame 0 false ready).scan.engine ≠ .stopped ∧ ready.scan.engine = .stopped ∧ ready.regs.run = false
    ∧ ready.scan.slip = none ∧ ready.NoSetup ∧ ready.scan.enables.get .a = true ∧ (ready.ctx .a).state = .idle
    ∧ ready.scan.enables.get .b = false :=
  ⟨by decide, by decide, by decide, by decide, rfl, rfl, rfl, (fun _ _ h => nomatch h), rfl, rfl, rfl⟩

theorem witness_PlainControlWrites :
    ((Instr.runClear 4).wf = true ∧ (Instr.intakeSet 2).wf = true ∧ (Instr.batch 4).wf = true)
    ∧ ready.regs.intake = false ∧ ∀ w ∈ [(4 : BitVec 32), 2], w.getLsbD 3 = false
      ∧ w.extractLsb' 8 4 = ready.regs.mask ∧ w.getLsbD 0 = false := by
  refine ⟨by decide, rfl, ?_⟩
  intro w h
  simp only [List.mem_cons, List.not_mem_nil, or_false] at h
  rcases h with rfl | rfl <;> decide

/-- With a sweep that waits for strip writes, one whose strip read waits, one whose strip read is issued, and one whose body
read is issued. -/
theorem witness_IntakeClearEndsSweep :
    (Instr.intakeClear 0).wf = true ∧ (0 : BitVec 32).getLsbD 3 = false ∧ (0 : BitVec 32).getLsbD 0 = false
    ∧ (∀ p : SweepPhase, (sweepIn p ready).regs.intake = true
      ∧ (sweepIn p ready).intake.sweep = some { base := 0, phase := p, snapshot := [], held := [], ending := false })
    ∧ (∃ r ∈ [stripRead 0], r.site = .sweep) ∧ (∀ r ∈ ready.link.waiting, r.site ≠ .sweep) :=
  ⟨by decide, by decide, by decide, fun _ => ⟨rfl, rfl⟩, by decide, by decide⟩

/-- EVENT.DONE set: the mask written 1 from 0, and 3 from 1. -/
theorem witness_MaskWriteTestsCondition :
    ∀ w ∈ [(0x100 : BitVec 32), 0x300, 0], (Instr.maskWrite w).wf = true ∧ w.getLsbD 3 = false
      ∧ w.getLsbD 0 = ready.regs.run ∧ w.getLsbD 1 = ready.regs.intake ∧ w.getLsbD 2 = ready.regs.batch
      ∧ (w = 0 ∨ (1 : BitVec 4) &&& w.extractLsb' 8 4 ≠ 0) ∧ (1 : BitVec 4) &&& ready.regs.mask = 0
      ∧ ready.link.inputs.up = true ∧ ready.link.inputs.mastering = true := by
  intro w h
  simp only [List.mem_cons, List.not_mem_nil, or_false] at h
  rcases h with rfl | rfl | rfl <;> decide

theorem witness_ResumeLeavesHalted :
    (Instr.resume 8).wf = true ∧ haltedDev.regs.sameFields 8 ∧ haltedDev.link.halted = true
    ∧ haltedDev.link.inputs.up = true ∧ haltedDev.link.inputs.mastering = true := by
  unfold Registers.sameFields; decide

/-- HALTED with the link ACTIVE and mastering disabled, and a write in the buffer. -/
theorem witness_ResumeLeavesHalted_faults :
    let d : Device := { haltedDev with link := { haltedDev.link with inputs := State.reset.dev.link.inputs, buffer := [aWrite] } }
    d.link.halted = true ∧ ¬(d.link.inputs.up = true ∧ d.link.inputs.mastering = true) ∧ d.QuietWhenHalted
    ∧ d.delivery.holding = [] ∧ d.link.buffer ≠ [] ∧ d.link.issued = false ∧ d.link.faultRecord = none :=
  ⟨rfl, by decide, fun _ => ⟨rfl, rfl, rfl, rfl, rfl, rfl⟩, rfl, by decide, rfl, rfl⟩

/-- HALTED with a record of channel A held before one of channel B, and a capture of channel A alone. -/
theorem witness_ResumeLeavesHalted_drains :
    let c : Capture := { aCapture with mask := { a := true, b := false } }
    let d : Device := { haltedDev with delivery := { holding := [aRecord .a, aRecord .b], captures := [c] } }
    d.link.halted = true ∧ d.QuietWhenHalted ∧ d.link.inputs.up = true ∧ d.link.inputs.mastering = true
    ∧ d.link.buffer = [] ∧ d.link.issued = false ∧ d.link.slotQueue = [] ∧ c.mask.get .a = true
    ∧ (∀ x ∈ [aRecord .b], c.mask.get x.ch = false) ∧ c.count + 1 < c.capacity ∧ c.endOnLift = false
    ∧ c.endOnProxOut = false ∧ d.regs.msgPending = false ∧ d.regs.sameFields 8 :=
  ⟨rfl, (fun _ => ⟨rfl, rfl, rfl, rfl, rfl, rfl⟩), rfl, rfl, rfl, rfl, rfl, rfl, by decide, by decide, rfl, rfl, rfl,
    by unfold Registers.sameFields; decide⟩

theorem witness_PromptStartsSweep :
    let d : Device := { ready with regs := { ready.regs with intake := true } }
    d.regs.intake = true ∧ d.link.halted = false ∧ d.intake.sweep = none ∧ (∀ w ∈ d.link.buffer, w.isStrip = false)
    ∧ d.link.waiting = [] ∧ d.link.inFlight = none ∧ d.link.inputs.up = true ∧ d.link.inputs.mastering = true
    ∧ (reading .executor 64 d).link.inFlight ≠ none ∧ (sweepIn .strip d).intake.sweep ≠ none
    ∧ [aWrite] = [] ++ aWrite :: [] ∧ aWrite.isStrip = true ∧ ready.regs.intake = false
    ∧ State.reset.dev.link.inputs.mastering = false := by decide

/-- A narrow access at the widest, a crossing one at the smallest, and the registers that discard writes. -/
theorem witness_TableBaseAndDiscardedWrites :
    ready.regs.intake = false ∧ (sweepIn .strip ready).regs.intake = true
    ∧ (3 : Fin 9).val < 4
    ∧ ((1 : BitVec 6).toNat % 4 + (4 : Fin 9).val > 4 ∧ ¬((4 : Fin 9).val = 8 ∧ (1 : BitVec 6).toNat = 0x20))
    ∧ ((0x18 : BitVec 6).toNat % 4 + (8 : Fin 9).val > 4 ∧ ¬((8 : Fin 9).val = 8 ∧ (0x18 : BitVec 6).toNat = 0x20))
    ∧ (4 : Fin 9).val = 4 ∧ 0x28 ≤ (0x28 : BitVec 6).toNat := by decide

/-- With full queues. -/
theorem witness_IdentAndStatusFields :
    let d : Device := { ready with
      board := bigBoard
      delivery := { holding := List.replicate 64 (aRecord .a), captures := List.replicate 16 aCapture } }
    Board.Valid d.board ∧ d.Bounded := by
  refine ⟨⟨by decide, by decide, by decide, by decide⟩, ⟨by decide, ?_, ?_, ?_, by decide, ?_⟩⟩
  · exact Nat.le_of_eq (List.length_replicate ..)
  · exact Nat.le_of_eq (List.length_replicate ..)
  · intro c hc; rw [List.eq_of_mem_replicate hc]; decide
  · intro _ _ h; cases h

/-- A fault with a slot and one without, and entries of the Map Error Log at the ends of their ranges. -/
theorem witness_IdentAndStatusFields_entries :
    (∀ slot ∈ [none, some (31 : Fin 32)], ∃ d : Device, d.link.faultRecord = some ⟨.linkDown, .drain, slot, 0xFFFFFFFF⟩)
    ∧ ∀ e ∈ [MapLogEntry.mk 1023 .uncorrectable 127 .executor, ⟨0, .corrected, 0, .solver⟩],
      (∃ d : Device, d.map.log = some e) ∧ e.bit < 128 ∧ e.node < 1024 :=
  ⟨fun slot _ =>
    ⟨{ ready with link := { ready.link with faultRecord := some ⟨.linkDown, .drain, slot, 0xFFFFFFFF⟩ } }, rfl⟩,
    fun e he => ⟨⟨{ ready with map := { ready.map with log := some e } }, rfl⟩, by
      simp only [List.mem_cons, List.not_mem_nil, or_false] at he
      rcases he with rfl | rfl <;> decide⟩⟩

theorem ready_valid : Board.Valid ready.board := ⟨by decide, by decide, by decide, by decide⟩

theorem ready_bounded : ready.Bounded :=
  ⟨by decide, by decide, by decide, (fun _ h => nomatch h), by decide, (fun _ _ h => nomatch h)⟩

/-- A part that holds what the limits are about as this one does is within them. -/
theorem bounded_of {d : Device} (hl : d.link = ready.link) (hd : d.delivery = ready.delivery)
    (hp : d.profiles = ready.profiles) (he : d.exec = none) : d.Bounded :=
  ⟨hl ▸ ready_bounded.buffer, hd ▸ ready_bounded.holding, hd ▸ ready_bounded.captures, hd ▸ ready_bounded.counts,
    hp ▸ ready_bounded.entries, fun _ _ h => nomatch he.symm.trans h⟩

/-- A trace ARMED and a trace CAPTURING. -/
theorem witness_IdentAndStatusFields_trace :
    ∀ c ∈ [false, true], ∃ j : TraceJob,
      let d : Device := { ready with trace := some { aTrace with capturing := c } }
      Board.Valid d.board ∧ d.Bounded ∧ d.trace = some j ∧ j.capturing = c :=
  fun _ _ => ⟨_, ready_valid, bounded_of rfl rfl rfl rfl, rfl, rfl⟩

/-- Accesses at the ends of the clauses: byte 3, whole, the 8 bytes of TABLE BASE, crossing, and past the registers; with
the largest log entry held. -/
theorem witness_IdentAndStatusFields_access :
    let e : MapLogEntry := { node := 1023, outcome := .uncorrectable, bit := 127, source := .executor }
    let d : Device := { ready with map := { ready.map with log := some e } }
    (Board.Valid d.board ∧ d.Bounded ∧ ∀ e, d.map.log = some e → e.bit < 128 ∧ e.node < 1024)
    ∧ ready.map.log = none ∧ ready.link.faultRecord = none ∧ 0x18 % 4 = 0 ∧ 0x23 % 4 + 1 ≤ 4 ∧ 0x20 % 4 + 4 ≤ 4
    ∧ (4 < 0x23 % 4 + 2 ∧ ¬(0x23 = 0x20 ∧ 2 = 8)) ∧ (4 < 0x24 % 4 + 8 ∧ ¬(0x24 = 0x20 ∧ 8 = 8))
    ∧ (0x28 ≤ 0x3F ∧ 0x3F < 0x40) :=
  ⟨⟨ready_valid, bounded_of rfl rfl rfl rfl, fun e h => Option.some.inj h ▸ by decide⟩, by decide⟩

/-- IDENT's family code by bytes, TABLE BASE whole, and an access that crosses (R173, R175). -/
theorem test_read_accesses :
    let d : Device := { ready with regs := { ready.regs with tableBase := 0x123456789ABCD000 } }
    d.readAccess 0 1 = 0x80 ∧ d.readAccess 1 1 = 0x32 ∧ d.readAccess 0x20 8 = 0x123456789ABCD000
    ∧ d.readAccess 0x22 2 = 0x9ABC ∧ d.readAccess 0x23 2 = 0 ∧ d.readAccess 0x24 8 = 0 := by decide

/-! ### Witnesses: scanning -/

theorem inFrame_unheard : emptyFrame.Unheard := ⟨rfl, rfl⟩

/-- At the period, channel A IDLE, in SEARCH and in HOVER. -/
theorem witness_FrameBoundaryStartsNextFrame (st : TrackState) :
    let d := tracking st (inFrame 2083 true ready)
    d.scan.engine = .running emptyFrame ∧ emptyFrame.period ≤ d.scan.elapsed ∧ emptyFrame.Unheard ∧ d.Calm ∧ d.NoSetup
    ∧ d.scan.arrivals = [] ∧ d.regs.run = true ∧ d.scan.enables.get .a = true ∧ (d.ctx .a).state = st
    ∧ d.scan.slip = none ∧ (inFrame 2082 true ready).scan.elapsed < emptyFrame.period :=
  ⟨rfl, Nat.le_refl 2083, ⟨rfl, rfl⟩, calm_of rfl rfl (fun _ h => nomatch h) rfl, (fun _ _ h => nomatch h), rfl, rfl, rfl, rfl,
    rfl, by decide⟩

/-- A part of nine loops whose peak, at the fifth, has this amplitude. -/
def peakPart (level : Amp) : PartResult := midPart 0 1 level 1

/-- Frame results whose four peaks have this amplitude, with this phase code. -/
def heardResults (level : Amp) (r : BitVec 12) : FrameResults where
  tipX := peakPart level
  tipY := peakPart level
  ringX := peakPart level
  ringY := peakPart level
  r := r
  symbol := .none
  timeTag := 5
  slipped := false

/-- A frame in which these channels' windows have completed with these results. -/
def heardFrame (on : PerChannel Bool) (level : Amp) (r : BitVec 12) : Frame :=
  let span : Span := { origin := 0, width := 9 }
  let amps := (peakPart level).amps
  let win : ChannelWindows :=
    { tipX := span, tipY := span, ringX := span, ringY := span, tip := some { x := amps, y := amps, r := r },
      ring := some { x := amps, y := amps, s := .none } }
  { emptyFrame with wins := { a := if on.a then some win else none, b := if on.b then some win else none } }

/-- The engine at the end of that frame, with both channels' context as given. -/
def heardIn (on : PerChannel Bool) (level : Amp) (r : BitVec 12) (c : Context) : Device :=
  { ready with
    scan := { ready.scan with engine := .running (heardFrame on level r), elapsed := 2083 }
    regs := { ready.regs with run := true }
    chans := { a := c, b := c } }

/-- The default profile as a step resolves it. -/
def resolvedDefault : Resolution := { name := .default, rev := 0, profile := Profile.builtIn, unlisted := false }

/-- Either channel, both or none with results. -/
theorem witness_FrameBoundaryStartsNextFrame_heard (on : PerChannel Bool) (level : Amp) (r : BitVec 12) (c : Context) :
    let d := heardIn on level r c
    let f := heardFrame on level r
    d.scan.engine = .running f ∧ f.period ≤ d.scan.elapsed ∧ d.Calm ∧ d.NoSetup
    ∧ d.scan.arrivals = [] ∧ d.regs.run = true ∧ f.results .a = (if on.a then some (heardResults level r) else none)
    ∧ f.results .b = (if on.b then some (heardResults level r) else none) ∧ d.trace = none ∧ d.delivery.captures = []
    ∧ d.map.grant = none ∧ d.map.execWaiting = false ∧ d.map.scrubWaiting = false :=
  ⟨rfl, Nat.le_refl 2083, calm_of rfl rfl (fun _ h => nomatch h) rfl, (fun _ _ h => nomatch h), rfl, rfl,
    by rcases on with ⟨_ | _, _⟩ <;> rfl, by rcases on with ⟨_, _ | _⟩ <;> rfl, rfl, rfl, rfl, rfl, rfl⟩

/-- Every kind of step that ends at once, on either channel: nothing found, a hover record held back by a divisor of 2, a find
produced with the map ABSENT, and the pen given up; the find with the map READY waits. -/
theorem witness_FrameBoundaryStartsNextFrame_steps (ch : Channel) :
    let at' (st : TrackState) (n : Nat) : Context := { Context.initial with state := st, coastCount := n }
    let part (level : Amp) (r : BitVec 12) (c : Context) : Device := heardIn { a := true, b := true } level r c
    let ends (d : Device) (level : Amp) (r : BitVec 12) : Prop :=
      ∃ c q n, d.Ends (heardFrame { a := true, b := true } level r) ch c q n
    let found := part 2000 59 (at' .search 0)
    let hover := part 2000 59 (at' .hover 0)
    ends (part 1999 0 (at' .search 0)) 1999 0
    ∧ ends { hover with scan := { hover.scan with divisor := 2 } } 2000 59
    ∧ ends found 2000 59 ∧ ends (part 0 0 (at' .coast 3)) 0 0
    ∧ ∃ c1 c job, Device.Waits { found with map := { found.map with state := .ready } } ch (heardResults 2000 59) c1 c job := by
  have hs : ∀ c : Context, c.state = .search → c.Hears .none c := fun c h => .inl ⟨h, rfl⟩
  have hn : ∀ c : Context, c.state ≠ .search → c.ident = .unknown → c.Hears .none c :=
    fun c h hu => .inr ⟨h, .ignored _ hu (by decide)⟩
  cases ch <;>
    exact ⟨⟨_, _, _, .heard (r := heardResults 1999 0) rfl
        (.silent (res := resolvedDefault) (hs _ rfl) (.search rfl) (.unfound rfl (by unfold reaches; decide)))⟩,
      ⟨_, _, _, .heard (r := heardResults 2000 59) rfl (.heldBack (res := resolvedDefault) (hn _ (by decide) rfl)
        (.unidentified (by decide)) (.hover (.inl rfl) (by unfold reaches; decide) (by decide))
        ⟨rfl, rfl, by decide⟩)⟩,
      ⟨_, _, _, .heard (r := heardResults 2000 59) rfl (.produced (res := resolvedDefault) (hs _ rfl) (.search rfl)
        (.findHover rfl (by unfold reaches; decide) (by decide)) (fun h => nomatch h.2.1) rfl rfl)⟩,
      ⟨_, _, _, .heard (r := heardResults 0 0) rfl (.givenUp (res := resolvedDefault) (hn _ (by decide) rfl)
        (.unidentified (by decide)) rfl (by unfold reaches; decide) (by decide))⟩,
      ⟨_, _, _, .intro (res := resolvedDefault) (hs _ rfl) (.search rfl)
        (.findHover rfl (by unfold reaches; decide) (by decide)) (fun h => nomatch h.2.1) rfl⟩⟩

/-- The digits of the code 0x2A17, at the ninth and at a good and a bad tenth of the third attempt. -/
theorem witness_FrameBoundaryStartsNextFrame_symbols :
    let c : Context := { Context.initial with ident := .reading, digits := [0, 2, 2, 2, 0, 1, 1, 3, 1], attempts := 2 }
    c.Reads (.digit 0) { c with ident := .known, digits := [0, 2, 2, 2, 0, 1, 1, 3, 1, 0], code := 0x2A17 }
    ∧ c.Reads (.digit 1) { c with ident := .failed, digits := [], attempts := 3 }
    ∧ ({ c with digits := [0, 2, 2, 2, 0, 1, 1, 3] } : Context).Reads (.digit 1) c :=
  ⟨.decoded 0 rfl (by decide) (by decide), .failed 1 rfl (by decide) (by decide), .collected 1 rfl (by decide)⟩

theorem witness_FrameBoundaryStartsNextFrame_moves :
    let at' (st : TrackState) (n : Nat) : Context := { Context.initial with state := st, coastCount := n }
    let p := Profile.builtIn
    (at' .search 0).Silent p 1999 2000 (at' .search 0)
    ∧ (at' .contact 0).Silent p 999 1000 { at' .coast 1 with prevContact := true }
    ∧ (at' .coast 2).Silent p 0 0 (at' .coast 3)
    ∧ (at' .search 0).Yields p 2000 2000 59 (at' .hover 0) ⟨.hover, .proxIn, false⟩
    ∧ (at' .hover 0).Yields p 1000 1000 60 { at' .contact 0 with stroke := 1 } ⟨.contact, .touch, false⟩
    ∧ (at' .coast 3).Yields p 1000 1000 59 { at' .hover 0 with bridged := true } ⟨.hover, .none, false⟩
    ∧ (at' .contact 0).Yields p 1000 1000 40 (at' .contact 0) ⟨.contact, .none, false⟩
    ∧ (at' .contact 0).Yields p 1000 1000 39 (at' .hover 0) ⟨.hover, .lift, true⟩
    ∧ (at' .hover 0).hoverCount + 1 < 2 ∧ ¬(at' .hover 0).hoverCount + 1 < 1 ∧ 3 ≤ (at' .coast 3).coastCount := by
  refine ⟨.unfound rfl (by unfold reaches; decide), .lost true rfl (by unfold reaches; decide),
    .coasting rfl (by unfold reaches; decide) (by decide), .findHover rfl (by unfold reaches; decide) (by decide),
    .touch (.inl rfl) (by unfold reaches; decide) (by decide),
    .hover (.inr ⟨rfl, rfl⟩) (by unfold reaches; decide) (by decide),
    .stay (.inl rfl) (by unfold reaches; decide) (by decide), .lift (.inl rfl) (by unfold reaches; decide) (by decide),
    by decide, by decide, by decide⟩

/-- A SCAN_SETUP that waits: channel A enabled at 240 frames a second. -/
def aSetup (enables : Byte) : ScanSetupParams := { rate := 0, enables := enables, divisor := 9 }

/-- A SCAN_SETUP waits at the end of the last frame. -/
theorem witness_FrameBoundaryStops_setup :
    let d := working (.scanSetup (aSetup 3)) (inFrame 2083 false ready)
    d.scan.engine = .running emptyFrame ∧ emptyFrame.period ≤ d.scan.elapsed ∧ emptyFrame.Unheard
    ∧ d.scan.arrivals = [] ∧ d.regs.run = false ∧ (∀ ch, (d.ctx ch).state.tracked = false) ∧ d.Calm ∧ d.trace = none
    ∧ [Rate.fps240, .fps360, .fps480][(aSetup 3).rate.toNat]? = some .fps240 :=
  ⟨rfl, by decide, ⟨rfl, rfl⟩, rfl, rfl, fun ch => by cases ch <;> rfl, calm_of rfl rfl (fun _ h => nomatch h) rfl, rfl, rfl⟩

/-- RUN 0, channel A IDLE. -/
theorem witness_FrameBoundaryStops :
    let d := inFrame 2083 false ready
    d.scan.engine = .running emptyFrame ∧ emptyFrame.period ≤ d.scan.elapsed ∧ emptyFrame.Unheard ∧ d.NoSetup
    ∧ d.scan.arrivals = [] ∧ d.regs.run = false ∧ (d.ctx .b).state.tracked = false ∧ d.Calm ∧ d.trace = none
    ∧ (d.ctx .a).state.tracked = false :=
  ⟨rfl, by decide, ⟨rfl, rfl⟩, (fun _ _ h => nomatch h), rfl, rfl, rfl, inFrame_calm _ _, rfl, rfl⟩

/-- RUN 0, channel A in CONTACT, while HALTED. -/
theorem witness_FrameBoundaryStops_halted :
    let d := tracking .contact (inFrame 2083 false haltedDev)
    d.scan.engine = .running emptyFrame ∧ emptyFrame.period ≤ d.scan.elapsed ∧ emptyFrame.Unheard ∧ d.NoSetup
    ∧ d.scan.arrivals = [] ∧ d.regs.run = false ∧ (d.ctx .b).state.tracked = false ∧ d.link.halted = true
    ∧ d.QuietWhenHalted ∧ d.delivery.holding.length < 64 ∧ (d.ctx .a).state.tracked = true :=
  ⟨rfl, by decide, ⟨rfl, rfl⟩, (fun _ _ h => nomatch h), rfl, rfl, rfl, rfl, (fun _ => ⟨rfl, rfl, rfl, rfl, rfl, rfl⟩), by decide,
    rfl⟩

/-- Nine-loop windows with nothing, or the tip window, complete. -/
def nineWide (tip : Option TipData) : ChannelWindows where
  tipX := { origin := 0, width := 9 }
  tipY := { origin := 0, width := 9 }
  ringX := { origin := 0, width := 9 }
  ringY := { origin := 0, width := 9 }
  tip := tip
  ring := none

/-- A frame with these windows of channels A and B, in progress. -/
def withWindows (a b : Option ChannelWindows) : Device :=
  { ready with scan := { ready.scan with engine := .running { emptyFrame with wins := { a := a, b := b } } } }

theorem witness_WindowResultIsKept :
    ready.scan.engine = .stopped
    ∧ (withWindows (some (nineWide none)) none).scan.engine
      = .running { emptyFrame with wins := { a := some (nineWide none), b := none } }
    ∧ (nineWide none).tip = none ∧ (List.replicate 9 (0 : Amp)).length = (nineWide none).tipX.width
    ∧ (nineWide (some { x := [], y := [], r := 0 })).tip ≠ none
    ∧ (nineWide (some { x := [], y := [], r := 0 })).ring = none
    ∧ (List.replicate 9 (0 : Amp)).length = (nineWide none).ringX.width
    ∧ (∀ v, (none : Option ChannelWindows) = some v → v.tip ≠ none ∧ v.ring ≠ none) :=
  ⟨rfl, rfl, rfl, rfl, by decide, rfl, rfl, fun _ h => nomatch h⟩

/-- With a clean word, one with bit 38 flipped and one with its lowest and highest bits flipped, into an empty log. -/
theorem witness_SolverReadPlacesNext :
    ∀ f ∈ [(0 : BitVec 39), BitVec.twoPow 39 38, BitVec.twoPow 39 0 ||| BitVec.twoPow 39 38],
      let d := inBoundary [zeroCorr, zeroCorr] (granted .solver f ready)
      let w : NodeWord := { cx := 1, cy := 2, flips := f }
      d.map.grant = some { who := .solver, node := 3, word := w }
      ∧ d.scan.engine = .boundary { frame := emptyFrame, realign := false, job := aJob [zeroCorr, zeroCorr], todo := [] }
      ∧ (aJob [zeroCorr, zeroCorr]).got.length < 3 ∧ d.map.execWaiting = false ∧ d.map.scrubWaiting = false
      ∧ d.map.solverWaiting = false ∧ ∃ o d', d.Notes 3 w .solver o d' := by
  intro f hf
  simp only [List.mem_cons, List.not_mem_nil, or_false] at hf
  rcases hf with rfl | rfl | rfl
  · exact ⟨rfl, rfl, by decide, rfl, rfl, rfl, _, _, .clean rfl⟩
  · exact ⟨rfl, rfl, by decide, rfl, rfl, rfl, _, _, .corrected 38 rfl (.first rfl (.untold (.inl rfl)))⟩
  · exact ⟨rfl, rfl, by decide, rfl, rfl, rfl, _, _, .uncorrectable 0 38 (by decide) rfl (.first rfl (.untold (.inl rfl)))⟩

theorem witness_SolverLastReadProducesRecord :
    let got := [zeroCorr, zeroCorr, zeroCorr]
    let d := inBoundary got (granted .solver 0 { haltedDev with regs := { haltedDev.regs with run := true } })
    d.map.grant = some { who := .solver, node := 3, word := { cx := 1, cy := 2, flips := 0 } }
    ∧ d.scan.engine = .boundary { frame := emptyFrame, realign := false, job := aJob got, todo := [] }
    ∧ (aJob got).got.length = 3 ∧ d.link.halted = true ∧ d.QuietWhenHalted ∧ d.delivery.holding.length < 64
    ∧ d.scan.arrivals = [] ∧ d.regs.run = true :=
  ⟨rfl, rfl, rfl, rfl, (fun _ => ⟨rfl, rfl, rfl, rfl, rfl, rfl⟩), by decide, rfl, rfl⟩

/-- With a capture of both channels that goes on, one that ends on PROX_OUT, one that ends on LIFT and one with room for one
record. -/
theorem witness_SolverLastReadProducesRecord_placed :
    ∀ c ∈ [aCapture, { aCapture with endOnProxOut := true }, { aCapture with endOnLift := true },
        { aCapture with capacity := 2 }],
      let got := [zeroCorr, zeroCorr, zeroCorr]
      let d := inBoundary got (granted .solver 0 { ready with
        regs := { ready.regs with run := true }, delivery := { holding := [], captures := [c] } })
      d.Calm ∧ d.NoSetup ∧ d.trace = none ∧ d.delivery.captures = [c] ∧ c.mask.get (aJob got).ch = true
      ∧ (c = aCapture → ¬c.count + 1 = c.capacity) := by
  intro c hc
  simp only [List.mem_cons, List.not_mem_nil, or_false] at hc
  rcases hc with rfl | rfl | rfl | rfl <;>
    exact ⟨calm_of rfl rfl (fun _ h => nomatch h) rfl, (fun _ _ h => nomatch h), rfl, rfl, rfl, by decide⟩

/-- In LEAD at 20, 21, 60, 61 µs after the frame start, and at 20, 21, 60, 61 µs before the next. -/
theorem witness_SyncArrivalMovesTracker :
    ∀ n ∈ [20, 21, 60, 61, 2063, 2062, 2023, 2022],
      let d := inFrame n true ready
      let d := { d with scan := { d.scan with tracker := .lead } }
      d.scan.engine = .running emptyFrame ∧ d.scan.tracker ≠ .free ∧ d.scan.arrivals = []
      ∧ (Edge.rising = .falling ↔ d.board.falling = true) ∧ d.exec = none := by decide

theorem witness_SyncRealignsAndLossFrees :
    let d := inFrame 7 true ready
    (Edge.rising = .falling ↔ d.board.falling = true) ∧ ¬(Edge.falling = .falling ↔ d.board.falling = true)
    ∧ d.scan.engine = .running emptyFrame ∧ d.scan.tracker = .free ∧ d.scan.slip = none ∧ d.scan.arrivals = []
    ∧ emptyFrame.Unheard ∧ d.Calm ∧ d.NoSetup ∧ d.regs.run = true ∧ ready.scan.engine = .stopped :=
  ⟨by decide, by decide, rfl, rfl, rfl, rfl, ⟨rfl, rfl⟩, inFrame_calm _ _, (fun _ _ h => nomatch h), rfl, rfl⟩

/-- A frame boundary that waits for a map read, without an arrival kept and with one. -/
theorem witness_SyncRealignsAndLossFrees_boundary :
    ∀ kept ∈ [[], [3]], ∃ b,
      let d := inBoundary [] ready
      let d := { d with scan := { d.scan with arrivals := kept, elapsed := 7 } }
      (Edge.rising = .falling ↔ d.board.falling = true) ∧ d.scan.engine = .boundary b :=
  fun _ _ => ⟨_, by simp [inBoundary, show ready.board.falling = false by decide], rfl⟩

theorem witness_SyncRealignsAndLossFrees_loss :
    ∀ n ∈ [99999, 100000],
      let d := inFrame 7 true ready
      let d := { d with scan := { d.scan with tracker := .lead, lossElapsed := n } }
      d.scan.engine ≠ .stopped ∧ d.scan.tracker ≠ .free ∧ (d.scan.lossElapsed < 100000 ↔ n = 99999) := by decide

/-! ### Witnesses: the map -/

theorem witness_ScrubTimerPlacesRequest :
    let d : Device := { ready with map := { ready.map with scrubElapsed := 1000, state := .ready } }
    1000 ≤ d.map.scrubElapsed ∧ d.map.state = .ready ∧ d.map.scrubWaiting = false ∧ d.map.grant = none
    ∧ d.map.solverWaiting = false ∧ d.map.execWaiting = false ∧ (granted .solver 0 d).map.grant ≠ none
    ∧ ready.map.state = .absent ∧ ready.map.scrubElapsed < 1000 := by decide

/-- A clean word, one with bit 38 flipped, and one with bits 0 and 38 flipped. -/
theorem witness_ScrubActsOnOutcome :
    ∀ f ∈ [(0 : BitVec 39), BitVec.twoPow 39 38, BitVec.twoPow 39 0 ||| BitVec.twoPow 39 38],
      let d := granted .scrubber f ready
      d.map.grant = some { who := .scrubber, node := 3, word := { cx := 1, cy := 2, flips := f } }
      ∧ d.map.solverWaiting = false ∧ d.map.execWaiting = false ∧ d.map.scrubWaiting = false ∧ d.map.log = none := by
  intro f h
  simp only [List.mem_cons, List.not_mem_nil, or_false] at h
  rcases h with rfl | rfl | rfl <;> decide

/-- A MAP_LOAD at its first entry, of this many, with these entries after it. -/
def aLoad (count : Nat) (rest : List (Int × Int)) : MapLoadWork where
  start := 0
  count := count
  source := 0
  final := true
  written := 0
  clamped := 0
  verify := 0
  entries := (1024, 0) :: rest

/-- With another entry fetched, with the rest of the run not fetched, and at the end of the run; the read-back clean, CORRECTED
into a full log, and UNCORRECTABLE into an empty one, with a message sent for it, and one kept. -/
theorem witness_MapLoadNodeWriteGoesOn :
    (∀ w ∈ [aLoad 2 [(0, 0)], aLoad 2 [], aLoad 1 []],
      let d := working (.mapLoad w) (granted .executor 0 ready)
      d.map.grant = some { who := .executor, node := 3, word := { cx := 1, cy := 2, flips := 0 } }
      ∧ d.exec = some { slot := 3, work := .mapLoad w } ∧ (∃ rest, w.entries = (1024, 0) :: rest)
      ∧ d.Notes 3 (readNode d.map.nodes 3) .executor .clean d ∧ d.Calm ∧ d.map.solverWaiting = false
      ∧ d.map.execWaiting = false ∧ d.map.scrubWaiting = false ∧ d.link.inFlight = none)
    ∧ (∃ d', Device.Notes { ready with map := { ready.map with log := some ⟨0, .corrected, 0, .solver⟩ } } 3
      { cx := 1, cy := 2, flips := 1 } .executor .corrected d')
    ∧ ∀ up, ∃ d', Device.Notes { ready with
        regs := { ready.regs with mask := 4 }
        link := { ready.link with inputs := { ready.link.inputs with msiOn := true, up := up } } } 3
      { cx := 1, cy := 2, flips := 3 } .executor .uncorrectable d' := by
  refine ⟨?_, ⟨_, .corrected 0 (by decide) (.full (fun h => nomatch h))⟩, ?_⟩
  · intro w hw
    simp only [List.mem_cons, List.not_mem_nil, or_false] at hw
    rcases hw with rfl | rfl | rfl <;>
      exact ⟨rfl, rfl, ⟨_, rfl⟩, .clean rfl, calm_of rfl rfl (fun _ h => nomatch h) rfl, rfl, rfl, rfl, rfl⟩
  · rintro (_ | _)
    · exact ⟨_, .uncorrectable 0 1 (by decide) (by decide) (.first rfl (.kept rfl (by decide) (by decide) (by decide)))⟩
    · exact ⟨_, .uncorrectable 0 1 (by decide) (by decide) (.first rfl (.told rfl (by decide) (by decide) ⟨rfl, rfl⟩))⟩

/-- A MAP_READ of a run of this many nodes, none read yet. -/
def aRead (count : Nat) : MapReadWork where
  start := 0
  count := count
  dest := 0
  done := 0
  corrected := 0
  uncorrectable := 0
  group := []

/-- With a second node to read, at the end of the run, and at the end of a group that is not the last, on a clean word, one with
bit 38 flipped and one with bits 0 and 38 flipped. -/
theorem witness_MapReadNodeReadGathers :
    ∀ f ∈ [(0 : BitVec 39), BitVec.twoPow 39 38, BitVec.twoPow 39 0 ||| BitVec.twoPow 39 38], ∀ n ∈ [1, 2, 17],
      let w : MapReadWork := { aRead n with group := if n = 17 then List.replicate 15 ⟨0, 0, .clean, 0⟩ else [] }
      let d := working (.mapRead w) (granted .executor f ready)
      d.map.grant = some { who := .executor, node := 3, word := { cx := 1, cy := 2, flips := f } }
      ∧ d.exec = some { slot := 3, work := .mapRead w } ∧ d.Calm ∧ d.map.solverWaiting = false
      ∧ d.map.execWaiting = false ∧ d.map.scrubWaiting = false
      ∧ (f = 0 ∨ f = BitVec.twoPow 39 (38 : Fin 39).val
        ∨ ((0 : Fin 39) ≠ 38 ∧ f = BitVec.twoPow 39 (0 : Fin 39).val ||| BitVec.twoPow 39 (38 : Fin 39).val))
      ∧ (w.group.length + 1 < min 16 (n - 0) ↔ n = 2)
      ∧ (w.group.length + 1 = min 16 (n - 0) ∧ 0 + (w.group.length + 1) < n ↔ n = 17)
      ∧ (w.group.length + 1 = min 16 (n - 0) ∧ 0 + (w.group.length + 1) = n ↔ n = 1) := by
  intro f hf n hn
  simp only [List.mem_cons, List.not_mem_nil, or_false] at hf hn
  rcases hf with rfl | rfl | rfl <;> rcases hn with rfl | rfl | rfl <;>
    exact ⟨rfl, rfl, calm_of rfl rfl (fun _ h => nomatch h) rfl, rfl, rfl, rfl, by decide, by decide, by decide, by decide⟩

theorem witness_MapBitFlipFlipsOneBit : NodeMem.wf [(1023, { cx := 1, cy := 0, flips := 0 })] = true := by decide

/-! ### Witnesses: sweeps -/

theorem witness_SweepTimerStartsSweep :
    let d : Device := { ready with
      intake := { ready.intake with elapsed := 1000 }, regs := { ready.regs with intake := true } }
    1000 ≤ d.intake.elapsed ∧ d.regs.intake = true ∧ d.link.halted = false ∧ d.intake.sweep = none
    ∧ (∀ w ∈ d.link.buffer, w.isStrip = false) ∧ d.link.waiting = [] ∧ d.link.inFlight = none
    ∧ d.link.inputs.up = true ∧ d.link.inputs.mastering = true ∧ ready.regs.intake = false
    ∧ ready.intake.elapsed < 1000 ∧ State.reset.dev.link.inputs.mastering = false := by decide

/-- A strip with this word at slot 0 and every other word 0. -/
def stripOf (state kind : Byte) : List Byte := [state, kind] ++ List.replicate 126 0

/-- The sweep whose strip read is in flight; nothing posted, a CAPTURE posted, and a kind of 14 posted. Slot 0 is the last
in rotation order. -/
theorem witness_StripReadWalksSlots :
    let d := reading .sweep 128 (sweepIn .strip ready)
    d.Calm ∧ (∃ rd, d.link.inFlight = some rd ∧ rd.req.site = .sweep ∧ rd.req.len = 128)
    ∧ d.intake.sweep = some { base := 0, phase := .strip, snapshot := [], held := [], ending := false }
    ∧ d.intake.promptPending = false
    ∧ (stripOf 1 1).length = 128 ∧ (∀ k : Fin 32, ¬(stripOf 0 0).getD (4 * k.val) 0 = 1)
    ∧ (0 : Fin 32) = Fin.ofNat 32 (d.intake.rotation.val + 1 + 31)
    ∧ (∀ kind ∈ [(1 : Byte), 6, 9, 14], (stripOf 1 kind).getD 0 0 = 1 ∧ (stripOf 1 kind).getD 1 0 = kind
      ∧ ∀ j < 31, ¬(stripOf 1 kind).getD (4 * (Fin.ofNat 32 (d.intake.rotation.val + 1 + j)).val) 0 = 1)
    ∧ d.isInFlight 0 = false ∧ d.delivery.captures.length < 16 ∧ d.trace = none ∧ d.exec = none
    ∧ d.regs.batch = false :=
  ⟨calm_of rfl rfl (fun _ h => nomatch h) rfl, ⟨_, rfl, rfl, rfl⟩, rfl, rfl, by decide +kernel, by decide +kernel, by decide,
    by decide +kernel, rfl, by decide, rfl, rfl, rfl⟩

/-- The Trace Unit holds a trace, with nothing staged. -/
theorem witness_StripReadWalksSlots_busy :
    let d : Device := { reading .sweep 128 (sweepIn .strip ready) with trace := some aTrace }
    d.Calm ∧ d.trace ≠ none ∧ d.regs.batch = false :=
  ⟨calm_of rfl rfl (by rintro t ⟨⟩; rfl) rfl, by decide, rfl⟩

/-- Slot 1 in flight, slot 2 a CAPTURE with the Capture Queue full, slot 3 a CLOCK_SET with the Executor busy: all are passed
over, and slot 4 is the first that is not. -/
theorem witness_StripReadWalksSlots_passed :
    let p : Device := { working (.profile true 0) ready with
      delivery := { holding := [], captures := List.replicate 16 aCapture } }
    let d := reading .sweep 128 (sweepIn .strip (p.marked { slot := 1, base := 0, kind := 1, notify := false }))
    let bytes : List Byte := List.replicate 4 0 ++ [1, 9, 0, 0, 1, 1, 0, 0, 1, 9, 0, 0, 1, 6, 0, 0] ++ List.replicate 108 0
    d.Calm ∧ bytes.length = 128 ∧ d.isInFlight 1 = true ∧ 16 ≤ d.delivery.captures.length ∧ d.exec ≠ none
    ∧ bytes.getD 5 0 = 9 ∧ bytes.getD 9 0 = 1 ∧ bytes.getD 13 0 = 9
    ∧ (4 : Fin 32) = Fin.ofNat 32 (d.intake.rotation.val + 1 + 3) ∧ bytes.getD 16 0 = 1 ∧ bytes.getD 17 0 = 6
    ∧ d.isInFlight 4 = false ∧ d.trace = none :=
  ⟨calm_of rfl rfl (fun _ h => nomatch h) rfl, by decide +kernel, by decide, by decide, (fun h => nomatch h), by decide, by decide,
    by decide, by decide, by decide, by decide, by decide, rfl⟩

/-- A body of 64 bytes of this kind. -/
def bodyBytes (kind : Byte) : List Byte := kind :: List.replicate 63 0

/-- The sweep whose read of slot 3's body is in flight, its strip word of this kind: a body of that kind, of another, and none of
64 bytes. -/
theorem witness_BodyReadSettlesSlot :
    ∀ kind ∈ [(1 : Byte), 2, 3, 4, 5, 6, 7, 8, 9],
      let d := awaiting kind ready
      (∃ sw rd, d.intake.sweep = some sw ∧ sw.phase = .body 3 [] ∧ stripKind (sw.snapshot.getD 3 0) = kind
        ∧ d.link.inFlight = some rd ∧ rd.req.site = .body ∧ rd.req.len = 64)
      ∧ d.Finds 3 kind ∧ d.exec = none ∧ (bodyBytes kind).length = 64 ∧ (bodyBytes kind).getD 0 0 = kind
      ∧ (bodyBytes 14).getD 0 0 ≠ kind ∧ (bodyBytes kind).getD 4 0 = 0 ∧ ([] : List Byte).length ≠ 64 := by
  intro kind h
  simp only [List.mem_cons, List.not_mem_nil, or_false] at h
  rcases h with rfl | rfl | rfl | rfl | rfl | rfl | rfl | rfl | rfl <;>
    exact ⟨⟨_, _, rfl, rfl, by decide, rfl, rfl, rfl⟩, awaiting_finds (by decide), rfl, by decide +kernel, rfl, by decide,
      by decide +kernel, by decide⟩

/-- BATCH mode, with a CLOCK_SET at slot 3 and another at slot 4 still to visit. -/
theorem witness_BodyReadSettlesSlot_batch :
    let sw : Sweep :=
      { base := 0, phase := .body 3 [4], snapshot := [0, 0, 0, 0x0901, 0x0901], held := [], ending := false }
    let d := reading .body 64 { ready with
      intake := { ready.intake with sweep := some sw }, regs := { ready.regs with batch := true } }
    d.Calm ∧ d.intake.sweep = some sw ∧ d.isInFlight 3 = false ∧ d.isInFlight 4 = false ∧ d.regs.batch = true
    ∧ (4 : Fin 32) ≠ 3 ∧ (bodyBytes 9).getD 0 0 = 9 ∧ d.exec = none ∧ stripState (sw.snapshot.getD 4 0) = 1
    ∧ stripKind (sw.snapshot.getD 4 0) = 9 ∧ 4 ∉ sw.held :=
  ⟨calm_of rfl rfl (fun _ h => nomatch h) rfl, rfl, rfl, rfl, rfl, by decide, rfl, rfl, by decide, by decide, by decide⟩

/-! ### Witnesses: captures and the trace -/

/-- A capture whose timer of 1 ms has run out. -/
theorem witness_IdleTimeoutCompletesCapture :
    let d : Device := { ready with delivery := { ready.delivery with captures := [aCapture] } }
    d.delivery.captures.find? (fun c => c.slot == 3) = some aCapture ∧ aCapture.timeout ≠ 0
    ∧ 1000 * aCapture.timeout ≤ aCapture.elapsed ∧ d.Calm
    ∧ ready.delivery.captures.find? (fun c => c.slot == 3) = none
    ∧ ({ aCapture with elapsed := 999 } : Capture).elapsed < 1000 * aCapture.timeout :=
  ⟨by decide, by decide, by decide, calm_of rfl rfl (fun _ h => nomatch h) rfl, by decide, by decide⟩

theorem witness_CaptureOpensOrRejects :
    (awaiting 1 ready).Finds 3 1 ∧ (awaiting 1 ready).delivery.captures.length < 16
    ∧ 16 ≤ (List.replicate 16 aCapture).length ∧ (1 : BitVec 32) ≠ 0 ∧ ¬((4 : Byte) = 1 ∨ (4 : Byte) = 2 ∨ (4 : Byte) = 3)
    ∧ (16 : Addr).toNat % 32 ≠ 0 ∧ (32 : Addr).toNat % 32 = 0
    ∧ (∀ sw, (awaiting 1 ready).intake.sweep = some sw → sw.phase = .body 3 []) :=
  ⟨awaiting_finds (by decide), by decide, by decide, by decide, by decide, by decide, by decide, by rintro sw ⟨⟩; rfl⟩

/-- A record of channel A held: with room for two, with room for one, and with each end flag. -/
theorem witness_CaptureOpensOrRejects_drains :
    let held : Delivery := { holding := [aRecord .a], captures := [] }
    let d := awaiting 1 { ready with delivery := held }
    d.delivery = held ∧ Device.Finds { d with delivery := { holding := [], captures := [] } } 3 1
    ∧ (∀ n ∈ [(1 : BitVec 32), 2], n ≠ 0 ∧ (min n.toNat 4096 = 1 ↔ n = 1)) ∧ (1 : Byte).getLsbD 0 = true
    ∧ (2 : Byte).getLsbD 1 = true :=
  ⟨rfl, awaiting_finds (by decide), by simp, by decide, by decide⟩

/-- Each trigger at the ends of its ranges, and one value past each range. -/
theorem witness_TraceArmsOrRejects :
    (awaiting 6 ready).Finds 3 6 ∧ (awaiting 6 ready).trace = none
    ∧ (∀ t ∈ [(0 : Byte), 4],
      ∃ tr, [Trigger.immediate, .proxIn, .touch, .lift, .pressureAbove][t.toNat]? = some tr)
    ∧ (let inRange (p : TraceParams) := p.channel.toNat ≤ 1 ∧ p.trigger.toNat ≤ 4
        ∧ (p.trigger = 4 → 1 ≤ p.level.toNat ∧ p.level.toNat ≤ 16383) ∧ p.pre.toNat ≤ 15
        ∧ 1 ≤ p.post.toNat ∧ p.post.toNat ≤ 240 ∧ p.pre.toNat + 1 ≤ p.capacity.toNat
       let p : TraceParams :=
        { channel := 1, trigger := 4, level := 16383, pre := 15, post := 240, capacity := 16, dest := 32 }
       inRange p ∧ ¬inRange { p with trigger := 5 } ∧ ¬inRange { p with level := 0 } ∧ ¬inRange { p with pre := 16 }
        ∧ ¬inRange { p with post := 241 } ∧ ¬inRange { p with capacity := 15 })
    ∧ (16 : Addr).toNat % 32 ≠ 0 ∧ (32 : Addr).toNat % 32 = 0 :=
  ⟨awaiting_finds (by decide), rfl, by simp, by simp, by decide, by decide⟩

theorem witness_TraceArmsOrRejects_busy :
    let d := awaiting 6 { ready with trace := some aTrace }
    d.Finds 3 6 ∧ d.trace ≠ none :=
  ⟨finds_of (by decide) (calm_of rfl rfl (by rintro t ⟨⟩; rfl) rfl) rfl rfl, by decide⟩

/-- A trace ARMED for LIFT and CAPTURING, with none and some to take, staging empty and full; and its channel and the other. -/
theorem witness_TraceArmsOrRejects_frames :
    let j : TraceJob := { aTrace with trigger := .lift }
    let frame := traceFrame bigBoard .a (heardResults 9 0) .hover
    ({ ready with trace := some j } : Device).trace = some j ∧ j.capturing = false ∧ Channel.b ≠ j.ch
    ∧ (List.replicate 16 frame).length = 16 ∧ (heardResults 9 0).tipX.amps.length = 9
    ∧ 16 ≤ bigBoard.nx := by
  refine ⟨rfl, rfl, by decide, List.length_replicate .., rfl, by decide⟩

/-! ### Witnesses: the Executor's posts -/

theorem witness_ScanSetupAppliesOrWaits :
    (awaiting 5 ready).Open 3 5 ∧ 2 < (3 : Byte).toNat
    ∧ (∀ c ∈ [(0 : Byte), 2], ∃ rate, [Rate.fps240, .fps360, .fps480][c.toNat]? = some rate)
    ∧ (awaiting 5 ready).scan.engine = .stopped ∧ (∀ ch, ((awaiting 5 ready).ctx ch).state = .idle)
    ∧ ready.board.bFitted = false :=
  ⟨awaiting_open (by decide), by decide, by simp, rfl, fun ch => by cases ch <;> rfl, rfl⟩

theorem witness_ScanSetupAppliesOrWaits_running :
    let d := awaiting 5 (inFrame 0 true ready)
    d.Open 3 5 ∧ d.scan.engine ≠ .stopped :=
  ⟨⟨finds_of (by decide) (calm_of rfl rfl (fun _ h => nomatch h) rfl) rfl rfl, rfl⟩, by decide⟩

/-- One that waits at a frame's end: channel A stays enabled, and channel A is disabled while IDLE, in SEARCH and in COAST. -/
theorem witness_ScanSetupAppliesOrWaits_applied (st : TrackState) (enables : Byte) :
    let d := working (.scanSetup (aSetup enables)) (tracking st (inFrame 2083 true ready))
    d.scan.engine = .running emptyFrame ∧ emptyFrame.period ≤ d.scan.elapsed ∧ emptyFrame.Unheard ∧ d.Calm
    ∧ d.trace = none ∧ d.scan.arrivals = [] ∧ d.regs.run = true ∧ d.scan.enables.get .a = true
    ∧ d.scan.enables.get .b = false ∧ (d.ctx .a).state = st ∧ d.delivery.captures = []
    ∧ [Rate.fps240, .fps360, .fps480][(aSetup enables).rate.toNat]? = some .fps240 ∧ Rate.fps240 ≠ d.scan.rate :=
  ⟨rfl, Nat.le_refl 2083, ⟨rfl, rfl⟩, calm_of rfl rfl (fun _ h => nomatch h) rfl, rfl, rfl, rfl, rfl, rfl, rfl, rfl, rfl,
    (fun h => nomatch h)⟩

/-- An entry of a key. -/
def anEntry (key : Half) : ProfileEntry := { key := key, rev := 255, profile := Profile.builtIn }

/-- A table with no entry, and a full one that does not hold key 1. -/
theorem witness_ProfileLoadAndDefaultReadBlock :
    (awaiting 2 ready).Open 3 2 ∧ (1 : Half) ≠ 0 ∧ (4 : Addr).toNat % 8 ≠ 0 ∧ (8 : Addr).toNat % 8 = 0
    ∧ ready.profiles.entries.length < 8
    ∧ (let full := List.replicate 8 (anEntry 2)
       let d := awaiting 2 { ready with profiles := { ready.profiles with entries := full } }
       d.Open 3 2 ∧ (¬∃ e ∈ d.profiles.entries, e.key = 1) ∧ (∃ e ∈ d.profiles.entries, e.key = 2)
        ∧ 8 ≤ d.profiles.entries.length) :=
  ⟨awaiting_open (by decide), by decide, by decide, by decide, by decide,
    ⟨finds_of (by decide) (calm_of rfl rfl (fun _ h => nomatch h) rfl) rfl rfl, rfl⟩, by decide, by decide, by decide⟩

/-- A table that holds key 1, and no other. -/
theorem witness_ProfileRemoveAndClear :
    let d := awaiting 2 { ready with profiles := { ready.profiles with entries := [anEntry 1] } }
    d.Open 3 2 ∧ (1 : Half) ≠ 0 ∧ d.profiles.entries = [] ++ anEntry 1 :: [] ∧ (anEntry 1).key = 1
    ∧ (∀ x ∈ ([] : List ProfileEntry) ++ [], x.key ≠ 1) ∧ (∀ e ∈ d.profiles.entries, e.key ≠ 2) :=
  ⟨⟨finds_of (by decide) (calm_of rfl rfl (fun _ h => nomatch h) rfl) rfl rfl, rfl⟩, by decide, rfl, rfl, by decide,
    by decide⟩

/-- The built-in profile as a block. -/
def aBlock (prox : Nat) : List Byte :=
  le 2 prox ++ le 2 40 ++ le 2 60 ++ Profile.builtIn.rs.flatMap (le 2) ++ Profile.builtIn.ps.flatMap (le 2)
    ++ [1, 0] ++ le 2 600 ++ [16] ++ List.replicate 17 0

/-- A block with prox_level at its lowest, which passes, and one below, which does not; LOAD and DEFAULT; the key not held
and held. -/
theorem witness_ProfileBlockIsCheckedAndApplied (isDefault : Bool) :
    let d := reading .executor 64 (working (.profile isDefault 1) ready)
    d.exec = some { slot := 3, work := .profile isDefault 1 } ∧ d.Calm
    ∧ (∃ rd, d.link.inFlight = some rd ∧ rd.req.site = .executor ∧ rd.req.len = 64)
    ∧ (aBlock 64).length = 64 ∧ (aBlock 63).length = 64
    ∧ (parseProfile (aBlock 64)).Valid ∧ ¬64 ≤ (parseProfile (aBlock 63)).prox ∧ (parseProfile (aBlock 63)).firstBad = some 1
    ∧ (∀ e ∈ d.profiles.entries, e.key ≠ 1) ∧ [anEntry 1] = [] ++ anEntry 1 :: [] :=
  ⟨rfl, calm_of rfl rfl (fun _ h => nomatch h) rfl, ⟨_, rfl, rfl, rfl⟩, by decide +kernel, by decide +kernel,
    by unfold Profile.Valid; decide +kernel, by decide +kernel, by decide +kernel, (fun _ h => nomatch h), rfl⟩

/-- Runs that end at the last of the 25 nodes of the smallest grid, one past it, and an empty run with CLEAR. -/
theorem witness_MapLoadBegins :
    (awaiting 3 ready).Open 3 3
    ∧ (let nodes := (ready.board.nx / 4 + 1) * (ready.board.ny / 4 + 1)
       let inRun (start count : Nat) (clear : Bool) : Prop :=
        count ≤ 1024 ∧ (count = 0 → clear = true) ∧ start + count ≤ nodes
       ¬inRun 25 1 false ∧ inRun 24 1 false ∧ inRun 0 0 true)
    ∧ (4 : Addr).toNat % 8 ≠ 0 ∧ (8 : Addr).toNat % 8 = 0 :=
  ⟨awaiting_open (by decide), by decide, by decide, by decide⟩

theorem witness_MapPieceWritesFirstNode :
    let d := reading .executor 8 (working (.mapLoad { aLoad 1 [] with entries := [] }) ready)
    d.exec = some { slot := 3, work := .mapLoad { aLoad 1 [] with entries := [] } } ∧ d.Calm
    ∧ (∃ rd, d.link.inFlight = some rd ∧ rd.req.site = .executor ∧ rd.req.len = (List.replicate 8 (0 : Byte)).length)
    ∧ d.map.grant = none ∧ d.map.solverWaiting = false ∧ d.map.scrubWaiting = false :=
  ⟨rfl, calm_of rfl rfl (fun _ h => nomatch h) rfl, ⟨_, rfl, rfl, rfl⟩, rfl, rfl, rfl⟩

theorem witness_MapReadBegins :
    (awaiting 4 ready).Open 3 4 ∧ ready.map.grant = none ∧ ready.map.solverWaiting = false ∧ ready.map.execWaiting = false
    ∧ ready.map.scrubWaiting = false
    ∧ (let nodes := (ready.board.nx / 4 + 1) * (ready.board.ny / 4 + 1)
       let inRun (start count : Nat) : Prop := 1 ≤ count ∧ count ≤ 1024 ∧ start + count ≤ nodes
       ¬inRun 0 0 ∧ ¬inRun 25 1 ∧ inRun 24 1) :=
  ⟨awaiting_open (by decide), rfl, rfl, rfl, rfl, by decide⟩

/-- R75: an entry out of range is counted as clamped at the limiting, while its write waits for a grant. -/
theorem test_clamped_at_the_limiting :
    let w : MapLoadWork := { aLoad 1 [] with entries := [] }
    let d := reading .executor 8 (working (.mapLoad w) (granted .solver 0 ready))
    ∃ t, exec (.mapPieceReadComplete [0, 4, 0, 0, 0, 0, 0, 0]) (holding d) = .next t ∧ t.dev.map.execWaiting = true
      ∧ t.dev.exec = some { slot := 3, work := .mapLoad { w with clamped := 1, entries := [(1023, 0)] } } :=
  ⟨_, rfl, by decide, by decide⟩

/-- R187: before the host has set INTAKE no post is read, so nothing is taken. -/
theorem test_no_post_before_intake :
    exec (.clockSet 3 true 5) State.reset = .next State.reset := rfl

theorem witness_ClockSetAndCounters :
    (awaiting 9 ready).Open 3 9 ∧ (awaiting 7 ready).Open 3 7 ∧ (16 : Addr).toNat % 32 ≠ 0 ∧ (32 : Addr).toNat % 32 = 0 :=
  ⟨awaiting_open (by decide), awaiting_open (by decide), by decide, by decide⟩

/-- An open capture at slot 4 and a trace at slot 31. -/
theorem witness_CancelCompletesWork :
    let c : Capture := { aCapture with slot := 4 }
    let d := awaiting 8 { ready with
      delivery := { ready.delivery with captures := [c] }, trace := some { aTrace with slot := 31 } }
    d.Open 3 8 ∧ ¬((0 : Byte) = 1 ∨ (0 : Byte) = 2 ∨ (0 : Byte) = 3) ∧ (d.delivery.captures.map fun c => c.slot).Nodup
    ∧ 32 ≤ (32 : Byte).toNat ∧ (31 : Byte).toNat < 32
    ∧ d.delivery.captures.find? (fun c => c.slot.val == (4 : Byte).toNat) = some c
    ∧ d.delivery.captures.find? (fun c => c.slot.val == (31 : Byte).toNat) = none
    ∧ (∀ j, d.trace = some j → j.slot.val = (31 : Byte).toNat) ∧ (∀ j, d.trace = some j → j.slot.val ≠ (5 : Byte).toNat) :=
  ⟨⟨finds_of (by decide) (calm_of rfl rfl (by rintro t ⟨⟩; rfl) rfl) rfl rfl, rfl⟩, by decide, by decide, by decide,
    by decide, by decide, by decide, by rintro j ⟨⟩; rfl, by rintro j ⟨⟩; decide⟩

/-- Mastering disabled while the body read was in flight. -/
theorem witness_CancelCompletesWork_faults :
    let d := awaiting 8 { ready with link := State.reset.dev.link }
    Device.Open { d with link := { d.link with inputs := { d.link.inputs with mastering := true } } } 3 8
    ∧ d.link.inputs.mastering = false ∧ d.trace = none ∧ (5 : Byte).toNat < 32
    ∧ d.delivery.captures.find? (fun c => c.slot.val == (5 : Byte).toNat) = none ∧ d.link.faultRecord = none :=
  ⟨awaiting_open (by decide), rfl, rfl, by decide, rfl, rfl⟩

theorem witness_PostNotHandledChangesNothing :
    postRow (.clockSet 3 false 0) = some (3, 9) ∧ (∀ sw rest, ready.intake.sweep = some sw → sw.phase ≠ .body 3 rest)
    ∧ (∀ f, ready.link.inFlight = some f → f.req.site ≠ .body)
    ∧ (∀ sw, (awaiting 8 ready).intake.sweep = some sw → stripKind (sw.snapshot.getD 3 0) ≠ 9)
    ∧ haltedDev.link.halted = true ∧ haltedDev.QuietWhenHalted :=
  ⟨rfl, (fun _ _ h => nomatch h), (fun _ h => nomatch h), by rintro sw ⟨⟩; decide, rfl, halted_quiet⟩

/-- The sweep at slot 3, the last or with a CAPTURE at slot 4 after it: the slot in flight, the Capture Queue full, the
Executor busy. -/
theorem witness_PostNotHandledChangesNothing_skips (kind : Byte) (rest : List (Fin 32)) :
    let sw : Sweep :=
      { base := 0, phase := .body 3 rest, snapshot := [0, 0, 0, (0 : BitVec 16) ++ kind ++ (1 : Byte), 0x0101], held := [],
        ending := false }
    let d := reading .body 64 (working (.profile true 0) { ready with intake := { ready.intake with sweep := some sw } })
    d.intake.sweep = some sw ∧ sw.phase = .body 3 rest ∧ (∃ f, d.link.inFlight = some f ∧ f.req.site = .body) ∧ d.Calm
    ∧ d.intake.promptPending = false ∧ d.exec ≠ none
    ∧ (ready.marked { slot := 3, base := 0, kind := 9, notify := false }).isInFlight 3 = true
    ∧ 16 ≤ (List.replicate 16 aCapture).length ∧ stripState (sw.snapshot.getD 4 0) = 1
    ∧ stripKind (sw.snapshot.getD 4 0) = 1 ∧ 4 ∉ sw.held ∧ d.isInFlight 4 = false ∧ d.delivery.captures.length < 16 :=
  ⟨rfl, rfl, ⟨_, rfl, rfl⟩, calm_of rfl rfl (fun _ h => nomatch h) rfl, rfl, (fun h => nomatch h), by decide, by decide,
    by simp [stripState], by simp [stripKind], List.not_mem_nil, rfl, Nat.zero_lt_succ _⟩

/-! ### Witnesses: the link -/

/-- The head issued with three writes behind it: a TAKEN write, a DONE write of a NOTIFY slot with the line interrupt; nothing
waiting, a slot write that waits, and a held record with a capture open. -/
theorem witness_WriteAcceptedFreesHead :
    let w := aWrite
    let v := doneWrite { slot := 3, base := 0, kind := 1, notify := true }
    let d := ready.wrote [w, w, w, w]
    let e : Device := { d with link := { d.link with slotQueue := [v] } }
    let c : Capture := { aCapture with timeout := 0 }
    let f : Device := { d with delivery := { holding := [aRecord .a], captures := [c] } }
    d.link.buffer = w :: [w, w, w] ∧ d.link.issued = true ∧ d.link.inputs.up = true ∧ d.link.inputs.mastering = true
    ∧ (∃ d', d.Accepts w [w, w, w] d') ∧ (∃ d', (ready.wrote [v]).Accepts v [] d')
    ∧ d.intake.sweep = none ∧ bulkGrant d = none ∧ d.trace = none ∧ d.delivery.holding = [] ∧ d.link.slotQueue = []
    ∧ e.link.slotQueue = [v] ∧ [w, w, w].length = 3 ∧ f.delivery.holding = [aRecord .a] ∧ f.link.halted = false
    ∧ f.delivery.captures = [c] ∧ c.mask.get (aRecord .a).ch = true ∧ c.count + 1 < c.capacity ∧ c.endOnLift = false
    ∧ c.endOnProxOut = false ∧ ready.link.buffer = [] := by
  refine ⟨rfl, rfl, rfl, rfl, ⟨_, .plain (fun _ h => nomatch h)⟩, ⟨_, .notifies 3 rfl (.untold (.inl rfl))⟩, rfl, rfl, rfl, rfl,
    rfl, rfl, rfl, rfl, rfl, rfl, rfl, ?_, rfl, rfl, rfl⟩
  decide

/-- Two frames staged, and the last one of a trace with none to take. -/
theorem witness_WriteAcceptedFreesHead_frames :
    ∀ n ∈ [1, 2],
      let fr := traceFrame bigBoard .a (heardResults 9 0) .hover
      let j : TraceJob := { aTrace with capturing := true, staging := List.replicate n fr }
      let d : Device := { ready.wrote [aWrite, aWrite, aWrite, aWrite] with trace := some j }
      d.trace = some j ∧ j.staging = fr :: List.replicate (n - 1) fr ∧ j.toTake = 0 ∧ d.link.issued = true
      ∧ d.delivery.holding = [] ∧ d.link.slotQueue = [] ∧ d.intake.sweep = none
      ∧ (List.replicate (n - 1) fr = [] ↔ n = 1) := by
  intro n hn
  simp only [List.mem_cons, List.not_mem_nil, or_false] at hn
  rcases hn with rfl | rfl <;> exact ⟨rfl, rfl, rfl, rfl, rfl, rfl, rfl, by simp⟩

/-- A sweep that waits for this many strip writes, with no read in flight and with one. -/
theorem witness_WriteAcceptedFreesHead_sweep (n : Nat) :
    let d := sweepIn (.waitStrips n) (ready.wrote [aWrite])
    (∃ sw, d.intake.sweep = some sw ∧ sw.phase = .waitStrips n) ∧ d.delivery.holding = [] ∧ d.link.slotQueue = []
    ∧ d.trace = none ∧ bulkGrant d = none ∧ d.link.halted = false ∧ d.link.waiting = [] ∧ d.link.inFlight = none
    ∧ (reading .executor 64 d).link.inFlight ≠ none :=
  ⟨⟨_, rfl, rfl⟩, rfl, rfl, rfl, rfl, rfl, rfl, rfl, fun h => nomatch h⟩

/-- A MAP_READ with its group complete, the last of its run and not, and a COUNTERS post, behind a full buffer. -/
theorem witness_WriteAcceptedFreesHead_bulk :
    (∀ n ∈ [16, 17],
      let g : MapReadWork := { aRead n with group := List.replicate 16 ⟨0, 0, .clean, 0⟩ }
      let d := working (.mapRead g) (ready.wrote [aWrite, aWrite, aWrite, aWrite])
      d.exec = some { slot := 3, work := .mapRead g } ∧ g.group ≠ [] ∧ g.group.length = min 16 (g.count - g.done)
      ∧ (g.done + g.group.length = g.count ↔ n = 16) ∧ (g.done + g.group.length < g.count ↔ n = 17)
      ∧ d.map.grant = none ∧ d.map.solverWaiting = false ∧ d.map.execWaiting = false ∧ d.map.scrubWaiting = false)
    ∧ (working (.counters 32 true) (ready.wrote [aWrite, aWrite, aWrite, aWrite])).exec
      = some { slot := 3, work := .counters 32 true } := by
  refine ⟨?_, rfl⟩
  intro n hn
  simp only [List.mem_cons, List.not_mem_nil, or_false] at hn
  rcases hn with rfl | rfl <;> exact ⟨rfl, by decide, by decide, by decide, by decide, rfl, rfl, rfl, rfl⟩

/-- A read at 9999 µs and at 10000 µs, for the Executor's current post. -/
theorem witness_ReadFaultsHalt :
    let d := reading .executor 64 (working (.profile true 0) ready)
    (∃ f, d.link.inFlight = some f ∧ f.elapsed < 10000 ∧ 10000 ≤ ({ f with elapsed := 10000 } : ReadInFlight).elapsed)
    ∧ ready.link.inFlight = none ∧ d.exec = some { slot := 3, work := .profile true 0 } ∧ d.link.faultRecord = none :=
  ⟨⟨_, rfl, by decide, by decide⟩, rfl, rfl, rfl⟩

/-- R119: a due expiry that an entry into HALTED comes before does not happen until the time is made up after RESUME. -/
theorem test_due_timer_waits_for_running_time :
    let c : Capture := { aCapture with elapsed := 1000 }
    let after (i : Instr) (d : Device) : Device := match exec i (holding d) with
      | .next t => t.dev
      | _ => d
    let d := after (.resume 8)
      (after .readError { reading .executor 64 ready with delivery := { holding := [], captures := [c] } })
    d.link.halted = false ∧ (after (.idleTimeout 3) d).delivery.captures.length = 1
    ∧ (after (.idleTimeout 3) (after (.strokeClockTick 1) d)).delivery.captures = [] := by decide +kernel

theorem witness_LinkDownFaults :
    ready.link.inputs.up = true ∧ ready.link.inFlight = none ∧ ready.link.buffer = [] ∧ haltedDev.link.halted = true
    ∧ ready.link.halted = false ∧ (∃ f, (reading .body 64 ready).link.inFlight = some f ∧ f.req.site = .body ∧ f.req.slot = some 3)
    ∧ (ready.wrote [aWrite]).link.buffer ≠ [] ∧ ready.link.faultRecord = none :=
  ⟨rfl, rfl, rfl, rfl, rfl, ⟨_, rfl, rfl, rfl⟩, by decide, rfl⟩

theorem witness_LinkReturnIssuesHead :
    ready.Calm ∧ ready.link.inputs.mastering = true ∧ State.reset.dev.link.inputs.up = true
    ∧ (ready.wrote [aWrite]).link.buffer ≠ []
    ∧ (let r : Registers := { ready.regs with event := 1, mask := 1, msgPending := true }
       r.msgPending = true ∧ r.event &&& r.mask ≠ 0) :=
  ⟨ready_calm, rfl, rfl, by decide, by decide⟩

/-! ### Witnesses: arithmetic, queues and invariants -/

theorem witness_ToolCodeDecodes :
    let c : Context := { Context.initial with ident := .reading, digits := [0, 2, 2, 2, 0, 1, 1, 3, 1], attempts := 2 }
    c.ident = .reading ∧ c.digits = [0, 2, 2, 2, 0, 1, 1, 3, 1] ∧ (c.applySymbol (.digit 0)).ident = .known
    ∧ (c.applySymbol (.digit 1)).ident = .failed := by decide

theorem witness_RawPositionInRange :
    let whole : PartResult := { origin := 0, amps := List.replicate 16 0 }
    (whole.origin = 0 ∧ whole.amps.length = 16 ∧ 16 ≤ 16)
    ∧ ((midPart 119 1 9 1).amps.length = 9 ∧ (midPart 119 1 9 1).origin + 9 ≤ 128 ∧ 16 ≤ 128)
    ∧ (peakOf (List.replicate 9 0)).1 = 0 ∧ (peakOf [0, 0, 0, 0, 0, 0, 0, 0, 1]).1 = 8 := by decide

theorem witness_RecordValuesInRange :
    Board.Valid bigBoard ∧ (aJob []).profile.Valid ∧ (aJob []).profile.rs.length = 9 ∧ (aJob []).profile.ps.length = 9
    ∧ ({ Context.initial with smooth := 16383 } : Context).smooth ≤ 16383 :=
  ⟨⟨by decide, by decide, by decide, by decide⟩, by unfold Profile.Valid; decide, rfl, rfl, by decide⟩

/-- A due Executor and a due scrubber before a waiting Solver: granted in this order, the Executor waiting again. -/
theorem witness_ArbiterBoundsWaits :
    let m : CorrectionMap :=
      { CorrectionMap.initial with
        solverWaiting := true, execWaiting := true, scrubWaiting := true, execPass := 8, scrubPass := 8 }
    let d1 : Device := { ready with map := m }
    let d2 : Device := { d1 with map := { (grantTo .executor d1).map with execWaiting := true } }
    let d3 := grantTo .scrubber d2
    m.PassOk ∧ d1.map.grant = none ∧ m.choose = some .executor ∧ d2.map.choose = some .scrubber
    ∧ d3.map.solverWaiting = true ∧ d3.map.choose = some .solver
    ∧ ({ m with solverWaiting := false, execPass := 0, scrubPass := 0 } : CorrectionMap).choose = some .executor
    ∧ ready.map.choose = none :=
  ⟨⟨by decide, by decide, by decide, by decide, by decide⟩, by decide, by decide, by decide, by decide, by decide, by decide,
    by decide⟩

/-- A queue of 64 in which the second record is the oldest plain hover record, with a later one of its channel and without; and
one of 64 marked records. -/
theorem witness_FullQueueLosesPlainHoverFirst :
    let lift : Record := { aRecord .a with event := .lift }
    let q := [lift] ++ aRecord .a :: ([] ++ aRecord .a :: List.replicate 61 (aRecord .b))
    let q' := [lift] ++ aRecord .a :: List.replicate 62 (aRecord .b)
    let q'' := [] ++ lift :: List.replicate 63 lift
    let plain (y : Record) : Prop := y.state = .hover ∧ y.event = .none
    q.length = 64 ∧ q'.length = 64 ∧ q''.length = 64 ∧ ¬plain lift ∧ plain (aRecord .a) ∧ (∀ y ∈ [lift], ¬plain y)
    ∧ (∀ y ∈ q'', ¬plain y) ∧ plain (aRecord .b) ∧ (∀ y ∈ List.replicate 62 (aRecord .b), y.ch ≠ .a) := by
  refine ⟨by simp, by simp, by simp, by decide, by decide, by decide, ?_, by decide, ?_⟩
  · intro y hy
    rw [List.nil_append, ← List.replicate_succ] at hy
    rw [List.eq_of_mem_replicate hy]; decide
  · intro y hy; rw [List.eq_of_mem_replicate hy]; decide

theorem witness_WrittenImages :
    let r : Record := { aRecord .b with x := 65535, y := 65535, pressure := 16383, tiltX := -600, tiltY := 600 }
    let t : TraceFrame := { traceFrame bigBoard .a (heardResults 9 0) .coast with tipX := midPart 255 0 65535 0 }
    r.x < 65536 ∧ r.y < 65536 ∧ r.pressure < 65536 ∧ -600 ≤ r.tiltX ∧ r.tiltX ≤ 600 ∧ -600 ≤ r.tiltY ∧ r.tiltY ≤ 600
    ∧ (le 5 0 ++ le 15 0).length ≤ 20 ∧ t.tipX.origin < 256 ∧ t.tipY.origin < 256 ∧ t.ringX.origin < 256
    ∧ t.ringY.origin < 256 ∧ t.tipX.amps.length = 9 ∧ t.tipY.amps.length = 9 ∧ t.ringX.amps.length = 9
    ∧ t.ringY.amps.length = 9 := by decide

/-- R197: the fields of a trace frame at their offsets. -/
theorem test_trace_frame_layout :
    let t : TraceFrame :=
      { traceFrame bigBoard .b (heardResults 9 0xABC) .coast with symbol := .mark, trigger := true, ringY := midPart 3 1 0x1234 7 }
    (t.image.drop 4).take 6 = [1, 4, 2, 4, 0xBC, 0x0A] ∧ (t.image.drop 13).take 2 = [3, 0]
    ∧ (t.image.drop 86).take 2 = [0x34, 0x12] ∧ t.image.length = 96 := by decide

/-- A step that flips a node's bit, and one that writes a node: the node memory changes. -/
theorem witness_NodesStayCanonical :
    (∃ t, step { dev := ready, pending := [.mapBitFlip 1023 38] } = .next t ∧ t.dev.map.nodes ≠ [])
    ∧ NodeMem.wf ready.map.nodes = true := ⟨⟨_, rfl, by decide⟩, by decide⟩

/-- A step that opens a capture. -/
theorem witness_QueuesStayBounded :
    (∃ t, step { dev := awaiting 1 ready, pending := [.capture 3 true ⟨0, 1, 3, 0, 0⟩] } = .next t
      ∧ t.dev.delivery.captures.length = 1 ∧ t.dev.link.buffer.length = 1)
    ∧ ready.Bounded :=
  ⟨⟨_, rfl, by decide, by decide⟩, ready_bounded⟩

/-- A step that enters HALTED from a sweep. -/
theorem witness_HaltedStaysQuiet :
    (∃ t, step { dev := reading .sweep 128 (sweepIn .strip ready), pending := [.readError] } = .next t
      ∧ t.dev.link.halted = true ∧ t.dev.intake.sweep = none)
    ∧ ready.QuietWhenHalted := ⟨⟨_, rfl, by decide, by decide⟩, fun h => nomatch h⟩

end Sys2Proof.Tests
end

section
/-!
PROOFS. The three resets: what each leaves, table by table, and what it keeps (R20, R38, R80, R172, R187, R188).
-/
namespace Sys2Proof.Machine

open Sys2Proof

/-- The limits of R1 hold of every board word taken. -/
theorem Board.ofWord_valid (w : BitVec 16) : Board.Valid (Board.ofWord w) := by
  simp only [Board.Valid, Board.ofWord, clampNat]
  omega

/-- A context after a reset holds the values of R38's table. -/
theorem Context.afterReset_blank (rev : BitVec 8) : (Context.afterReset rev).Blank rev := by
  constructor <;> simp [Context.afterReset, Context.initial]

/-- With no cause in EVENT the line interrupt is not asserted (R180). -/
theorem Device.line_of_no_event {d : Device} (h : d.regs.event = 0) : d.line = false := by
  simp [Device.line, Registers.condition, h]

/-- A cleared counter block reads 0 throughout (R184). -/
theorem Counters.zero_list : ∀ v ∈ Counters.zero.list, v = 0 := by
  simp [Counters.list, Counters.zero]

/-- Power-on leaves the values every reset leaves. -/
theorem powerOnReset_afterReset (w : BitVec 16) (inputs : LinkInputs) (d : Device) :
    (powerOnReset w inputs d).AfterReset where
  engine := ⟨rfl, rfl, rfl⟩
  chans ch := by cases ch <;> exact Context.afterReset_blank 0
  port := ⟨rfl, rfl, rfl, rfl⟩
  passes := ⟨rfl, rfl⟩
  scrubber := ⟨rfl, rfl, rfl⟩
  delivery := ⟨rfl, rfl⟩
  intake := ⟨rfl, rfl, rfl⟩
  slots := ⟨rfl, rfl⟩
  work := ⟨rfl, rfl⟩
  reads := ⟨rfl, rfl⟩
  writes := ⟨rfl, rfl⟩
  faults := ⟨rfl, rfl⟩
  control := ⟨rfl, rfl, rfl, rfl⟩
  event := ⟨rfl, rfl, Device.line_of_no_event rfl⟩
  counters := Counters.zero_list

/-- What a link reset and a soft reset have in common leaves the values every reset leaves, once the Scan Engine has its
own; the board and the map state are no part of them. -/
theorem commonReset_afterReset {base : Addr} {inputs : LinkInputs} {d : Device} (board : Board) {scan : ScanEngine}
    (st : MapState) (h : scan.engine = .stopped ∧ scan.tracker = .free ∧ scan.slip = none) :
    Device.AfterReset { commonReset base inputs d with
      board := board, scan := scan, map := { (commonReset base inputs d).map with state := st } } where
  engine := h
  chans ch := by cases ch <;> exact Context.afterReset_blank _
  port := ⟨rfl, rfl, rfl, rfl⟩
  passes := ⟨rfl, rfl⟩
  scrubber := ⟨rfl, rfl, rfl⟩
  delivery := ⟨rfl, rfl⟩
  intake := ⟨rfl, rfl, rfl⟩
  slots := ⟨rfl, rfl⟩
  work := ⟨rfl, rfl⟩
  reads := ⟨rfl, rfl⟩
  writes := ⟨rfl, rfl⟩
  faults := ⟨rfl, rfl⟩
  control := ⟨rfl, rfl, rfl, rfl⟩
  event := ⟨rfl, rfl, Device.line_of_no_event rfl⟩
  counters := Counters.zero_list

/-- A scrub grant moves the cursor, and keeps the other kept values. -/
theorem kept_answerScrub (g : Grant) (d : Device) :
    (answerScrub g d).kept = { d.kept with cursor := nextCursor (answerScrub g d).board.nodeCount d.map.cursor } := by
  have h := kept_noteRead g.node g.word.check .scrubber
    { d with map := { d.map with
      nodes := if g.word.check.outcome = .corrected then
        storeNode d.map.nodes g.node (NodeWord.fresh g.word.check.cx g.word.check.cy) else d.map.nodes } }
  simp only [Device.kept, Kept.mk.injEq] at h ⊢
  simp [answerScrub, endGrant, h]

/-- A grant that completes before a reset keeps all but the cursor of the kept values (R61, R80). -/
theorem kept_settleGrant (d : Device) : ∃ n, (settleGrant d).kept = { d.kept with cursor := n } := by
  unfold settleGrant
  split
  · exact ⟨_, rfl⟩
  · next g _ =>
    split
    · exact ⟨_, kept_answerScrub g d⟩
    · exact ⟨d.map.cursor, kept_answerExec g d⟩
    · exact ⟨d.map.cursor, kept_noteRead g.node g.word.check .solver d⟩

/-- With no grant in progress nothing has to complete. -/
theorem settleGrant_none {d : Device} (h : d.map.grant = none) : settleGrant d = d := by
  simp [settleGrant, h]

/-- What a link reset and a soft reset keep (R80, R94, R188). -/
theorem commonReset_keeps (base : Addr) (inputs : LinkInputs) (d : Device) :
    (commonReset base inputs d).board = d.board ∧ (commonReset base inputs d).profiles = d.profiles
    ∧ (commonReset base inputs d).clock = d.clock ∧ (commonReset base inputs d).map.state = d.map.state
    ∧ (d.map.grant = none → (commonReset base inputs d).map.nodes = d.map.nodes) := by
  obtain ⟨n, h⟩ := kept_settleGrant d
  refine ⟨congrArg Kept.board h, congrArg Kept.profiles h, congrArg Kept.clock h, congrArg Kept.mapState h, fun hg => ?_⟩
  simp [commonReset, CorrectionMap.afterReset, settleGrant_none hg]

/-- Settles O3. -/
theorem powerOnValues : Obligations.PowerOnValues := by
  intro s w inputs
  exact ⟨_, rfl, rfl, powerOnReset_afterReset w inputs s.dev, rfl, Board.ofWord_valid w, rfl, rfl, rfl, rfl,
    fun _ => rfl, rfl, rfl, rfl, rfl, rfl, rfl⟩

/-- The grid of a board word is the same where its loops are as many on both axes. -/
theorem gridMapState_eq (old new : Board) (st : MapState) :
    gridMapState old new st = if new.nx = old.nx ∧ new.ny = old.ny then st else .absent := by
  have hx : old.nx4 = new.nx4 ↔ new.nx = old.nx := by simp only [Board.nx]; omega
  have hy : old.ny4 = new.ny4 ↔ new.ny = old.ny := by simp only [Board.ny]; omega
  simp only [gridMapState, hx, hy]

/-- Settles O4: a grant in progress completes first, and changes none of what a link reset keeps. -/
theorem linkResetValues : Obligations.LinkResetValues := by
  intro s w inputs
  obtain ⟨-, hprofiles, hclock, hstate, hnodes⟩ := commonReset_keeps 0 inputs s.dev
  refine ⟨_, rfl, rfl, commonReset_afterReset _ _ ⟨rfl, rfl, rfl⟩, rfl, Board.ofWord_valid w, rfl, rfl, rfl, rfl,
    hprofiles, hclock, rfl, ?same, ?changed, hnodes⟩
  case same =>
    intro hx hy
    show gridMapState s.dev.board (Board.ofWord w) _ = _
    rw [gridMapState_eq, if_pos ⟨hx, hy⟩, hstate]
  case changed =>
    intro h
    show gridMapState s.dev.board (Board.ofWord w) _ = _
    rw [gridMapState_eq, if_neg (by rintro ⟨hx, hy⟩; exact h.elim (· hx) (· hy))]

/-- Settles O5: a grant in progress completes first, and changes none of what a soft reset keeps. -/
theorem softResetValues : Obligations.SoftResetValues := by
  intro s w
  obtain ⟨hboard, hprofiles, hclock, hstate, hnodes⟩ := commonReset_keeps s.dev.regs.tableBase s.dev.link.inputs s.dev
  exact ⟨_, rfl, rfl, commonReset_afterReset _ _ ⟨rfl, rfl, rfl⟩, hboard, rfl, rfl, rfl, rfl, hprofiles, hclock, rfl,
    hstate, hnodes⟩

/-- Settles O60. -/
theorem resetMeetsInvariants : Obligations.ResetMeetsInvariants := by
  refine ⟨rfl, powerOnReset_afterReset 0 State.reset.dev.link.inputs State.reset.dev, Board.ofWord_valid 0, rfl, ?bounded,
    (fun h => nomatch h), ?passes, rfl, rfl, rfl, rfl, rfl, rfl, rfl⟩
  case bounded =>
    exact ⟨by decide, by decide, by decide, (fun _ h => nomatch h), by decide, (fun _ _ h => nomatch h)⟩
  case passes => constructor <;> decide

end Sys2Proof.Machine
end

section
/-!
PROOFS. The passing of time and the keeping of window results (R4, R5, R8, R18, R118, R159, R182).
-/
namespace Sys2Proof.Machine

open Sys2Proof

/-! ### Time (R182) -/

/-- The engine's timers are all that ages of the Scan Engine. -/
theorem ScanEngine.age_frame (us : Nat) (e : ScanEngine) :
    e.age us = { e with elapsed := (e.age us).elapsed, lossElapsed := (e.age us).lossElapsed } := by
  unfold ScanEngine.age; split <;> rfl

/-- A stopped engine runs no timer (R4, R18). -/
theorem ScanEngine.age_stopped {e : ScanEngine} (us : Nat) (h : e.engine = .stopped) : e.age us = e := by
  simp [ScanEngine.age, h]

/-- The frame timer runs while the engine is not stopped (R4). -/
theorem ScanEngine.age_elapsed {e : ScanEngine} (us : Nat) (h : e.engine ≠ .stopped) :
    (e.age us).elapsed = e.elapsed + us := by
  simp [ScanEngine.age, h]

/-- The loss timer runs in step (R18). -/
theorem ScanEngine.age_loss {e : ScanEngine} (us : Nat) (h : e.engine ≠ .stopped) (ht : e.tracker ≠ .free) :
    (e.age us).lossElapsed = e.lossElapsed + us := by
  simp [ScanEngine.age, h, ht]

/-- The loss timer stands in FREE (R18). -/
theorem ScanEngine.age_loss_free {e : ScanEngine} (us : Nat) (h : e.tracker = .free) :
    (e.age us).lossElapsed = e.lossElapsed := by
  by_cases hs : e.engine = .stopped
  · rw [ScanEngine.age_stopped us hs]
  · simp [ScanEngine.age, hs, h]

/-- Idle timers are all that ages of the Delivery Unit, and they stand while HALTED (R118). -/
theorem ageCaptures_eq (us : Nat) (d : Device) : ageCaptures us d = { d with
    delivery := { d.delivery with
      captures := if d.link.halted then d.delivery.captures else d.delivery.captures.map fun c => c.age us } } := by
  unfold ageCaptures; split <;> rfl

/-- Settles O23. -/
theorem tickAgesTimers : Obligations.TickAgesTimers := by
  intro s us
  refine ⟨onDevice (passTime us) s, rfl, ?frame, ?_⟩
  case frame =>
    simp only [onDevice, passTime, ageCaptures_eq, LinkPort.age]
    rw [← ScanEngine.age_frame]
  · simp only [onDevice_dev, passTime, ageCaptures_eq]
    refine ⟨by simp, ScanEngine.age_elapsed us, ScanEngine.age_stopped us, ScanEngine.age_loss us,
      ScanEngine.age_loss_free us, ?halted, ?running, ?idle, ?reading⟩
    case halted => intro h; simp [LinkPort.age, h]
    case running => intro h; simp [LinkPort.age, h, Capture.age]
    case idle => intro h; simp [LinkPort.age, h]
    case reading => intro r h; simp [LinkPort.age, h]

/-! ### Window results (R5, R8) -/

/-- A result that reaches a running engine is offered to the frame. -/
theorem windowDone_running {d : Device} {f : Frame} (ch : Channel) (res : WindowResult)
    (h : d.scan.engine = .running f) :
    windowDone ch res d = { d with scan := { d.scan with engine := .running (f.accept ch res) } } := by
  simp [windowDone, h]

/-- The window of a channel that is the next to complete: false its tip window, true its ring window (R5). -/
def windowDue : Option ChannelWindows → Option Bool
  | none => none
  | some w => if w.tip.isNone then some false else if w.ring.isNone then some true else none

/-- Channel A's windows come before channel B's (R5). -/
theorem Frame.nextWindow_eq (f : Frame) :
    f.nextWindow = ((windowDue f.wins.a).map (Channel.a, ·)).or ((windowDue f.wins.b).map (Channel.b, ·)) := by
  show (match windowDue f.wins.a with
    | some r => some (Channel.a, r)
    | none => match windowDue f.wins.b with
      | some r => some (Channel.b, r)
      | none => none) = _
  cases windowDue f.wins.a <;> cases windowDue f.wins.b <;> rfl

/-- With channel A complete, or the channel being A itself, what is due of the channel is the next window. -/
theorem Frame.nextWindow_of_due {f : Frame} {ch : Channel} {ring : Bool} (hd : windowDue (f.wins.get ch) = some ring)
    (ha : ch = .b → ∀ v, f.wins.a = some v → v.tip ≠ none ∧ v.ring ≠ none) : f.nextWindow = some (ch, ring) := by
  rw [Frame.nextWindow_eq]
  cases ch with
  | a =>
    have hd : windowDue f.wins.a = some ring := hd
    simp [hd]
  | b =>
    have hd : windowDue f.wins.b = some ring := hd
    have hnone : windowDue f.wins.a = none := by
      cases hv : f.wins.a with
      | none => rfl
      | some v => simp [windowDue, ha rfl v hv]
    simp [hd, hnone]

/-- A result of the window that is due is kept by its channel's windows. -/
theorem Frame.accept_due {f : Frame} {ch : Channel} {w : ChannelWindows} {res : WindowResult}
    (hw : f.wins.get ch = some w) (hd : windowDue (some w) = some (isRing res))
    (ha : ch = .b → ∀ v, f.wins.a = some v → v.tip ≠ none ∧ v.ring ≠ none) :
    f.accept ch res = { f with wins := f.wins.set ch (some (w.accept res)) } := by
  simp [Frame.accept, Frame.nextWindow_of_due (hw ▸ hd) ha, hw]

/-- Settles O18. -/
theorem windowResultIsKept : Obligations.WindowResultIsKept := by
  intro s ch x y r m
  have kept : ∀ {f res f'}, s.dev.scan.engine = .running f → f.accept ch res = f' →
      Sys2Proof.Machine.exec (.windowResult ch res) s
        = .next { s with dev := { s.dev with scan := { s.dev.scan with engine := .running f' } } } := by
    rintro f res f' hf rfl
    rw [← windowDone_running ch res hf]; rfl
  refine ⟨?stopped, fun f w hf hw ha => ⟨?tip, ?ring⟩⟩
  case stopped =>
    intro res h
    have hd : windowDone ch res s.dev = s.dev := by simp [windowDone, h]
    show Host.Outcome.next (onDevice (windowDone ch res) s) = _
    rw [onDevice, hd]
  case tip =>
    intro ht hx hy
    refine kept hf ((Frame.accept_due hw ?_ ha).trans ?_)
    · simp [windowDue, ht, isRing]
    · simp [ChannelWindows.accept, hx, hy]
  case ring =>
    intro ht hr hx hy
    refine kept hf ((Frame.accept_due hw ?_ ha).trans ?_)
    · simp [windowDue, ht, hr, isRing]
    · simp [ChannelWindows.accept, hx, hy]

end Sys2Proof.Machine
end

section
/-!
PROOFS. How a frame starts (R4, R6, R11, R17, R22): the channels it wakes, the windows it places, and the frame itself, each
as a function of the part.
-/
namespace Sys2Proof.Machine

open Sys2Proof

/-- A context put back where it stands changes nothing. -/
theorem Device.setCtx_ctx (d : Device) (ch : Channel) : d.setCtx ch (d.ctx ch) = d := by cases ch <;> rfl

/-- A channel's context as a frame start leaves it (R4 step 4, R22). -/
def Device.awake (d : Device) (ch : Channel) : Context :=
  if d.scan.enables.get ch ∧ (d.ctx ch).state = .idle then (d.ctx ch).forget .search d.profiles.defaultRev else d.ctx ch

/-- A channel's windows as a frame start places them (R6). -/
def Device.openWindows (d : Device) (ch : Channel) : Option ChannelWindows :=
  if d.scan.enables.get ch then some (placeWindows d.board (d.awake ch)) else none

/-- The frame that starts (R4 steps 1, 3 and 5). -/
def Device.nextFrame (d : Device) (tag : Micros) : Frame where
  timeTag := tag
  slipped := d.scan.slip.isSome
  period := framePeriod d.scan.rate d.scan.slip
  wins := { a := d.openWindows .a, b := d.openWindows .b }

/-- The part with its next frame started. -/
def Device.started (d : Device) (tag : Micros) : Device :=
  { d with
    chans := { a := d.awake .a, b := d.awake .b }
    scan := { d.scan with engine := .running (d.nextFrame tag), slip := none } }

theorem wakeChannel_eq (ch : Channel) (d : Device) : wakeChannel ch d = d.setCtx ch (d.awake ch) := by
  unfold wakeChannel Device.awake
  split
  · rfl
  · rw [Device.setCtx_ctx]

/-- A frame start, once a waiting SCAN_SETUP has been applied. -/
theorem startFrame_eq (d : Device) : startFrame d = (applyWaiting d.clock true d).started d.clock := by
  simp only [startFrame, wakeChannel_eq]
  rfl

/-- With no SCAN_SETUP waiting none is applied. -/
theorem applyWaiting_none {d : Device} (h : d.NoSetup) (tag : Micros) (running : Bool) :
    applyWaiting tag running d = d := by
  unfold applyWaiting
  split
  · next slot p he => exact absurd he (h slot p)
  · rfl

theorem startFrame_noSetup {d : Device} (h : d.NoSetup) : startFrame d = d.started d.clock := by
  rw [startFrame_eq, applyWaiting_none h]

theorem Device.ctx_started (d : Device) (tag : Micros) (ch : Channel) : (d.started tag).ctx ch = d.awake ch := by
  cases ch <;> rfl

theorem Device.nextFrame_wins (d : Device) (tag : Micros) (ch : Channel) :
    (d.nextFrame tag).wins.get ch = d.openWindows ch := by cases ch <;> rfl

/-! ### The channels after a frame start (R22) -/

section
variable {d : Device} {ch : Channel}

/-- A channel that is not enabled stays as it is. -/
theorem Device.started_disabled (tag : Micros) (h : d.scan.enables.get ch = false) :
    (d.started tag).ctx ch = d.ctx ch := by simp [Device.ctx_started, Device.awake, h]

/-- A channel that is not IDLE stays as it is. -/
theorem Device.started_busy (tag : Micros) (h : (d.ctx ch).state ≠ .idle) : (d.started tag).ctx ch = d.ctx ch := by
  simp [Device.ctx_started, Device.awake, h]

/-- An enabled IDLE channel goes to SEARCH (R4 step 4). -/
theorem Device.started_idle (tag : Micros) (h : d.scan.enables.get ch = true) (hi : (d.ctx ch).state = .idle) :
    (d.started tag).ctx ch = (d.ctx ch).forget .search d.profiles.defaultRev := by
  simp [Device.ctx_started, Device.awake, h, hi]

/-- No enabled channel is IDLE in a frame. -/
theorem Device.started_enabled (tag : Micros) (h : d.scan.enables.get ch = true) :
    ((d.started tag).ctx ch).state ≠ .idle := by
  by_cases hi : (d.ctx ch).state = .idle
  · rw [Device.started_idle tag h hi]; simp [Context.forget]
  · rwa [Device.started_busy tag hi]

/-! ### The windows of a frame (R6) -/

/-- A channel that is not enabled has no windows. -/
theorem Device.nextFrame_disabled (tag : Micros) (h : d.scan.enables.get ch = false) :
    (d.nextFrame tag).wins.get ch = none := by simp [Device.nextFrame_wins, Device.openWindows, h]

/-- An enabled channel has windows, placed from its context in the frame. -/
theorem Device.nextFrame_enabled (tag : Micros) (h : d.scan.enables.get ch = true) :
    (d.nextFrame tag).wins.get ch = some (placeWindows d.board ((d.started tag).ctx ch)) := by
  simp [Device.nextFrame_wins, Device.openWindows, h, Device.ctx_started]

/-- A channel in SEARCH listens over the whole grid (R6). -/
theorem Device.nextFrame_search (tag : Micros) (h : d.scan.enables.get ch = true)
    (hs : ((d.started tag).ctx ch).state = .search) :
    ∃ w, (d.nextFrame tag).wins.get ch = some w ∧ w.tip = none ∧ w.ring = none
      ∧ w.tipX = { origin := 0, width := d.board.nx } ∧ w.tipY = { origin := 0, width := d.board.ny }
      ∧ w.ringX = { origin := 0, width := d.board.nx } ∧ w.ringY = { origin := 0, width := d.board.ny } := by
  refine ⟨_, Device.nextFrame_enabled tag h, ?_⟩
  simp [placeWindows, hs, wholeAxis]

/-- A tracked channel listens to nine loops around each of its last peaks (R6). -/
theorem Device.nextFrame_tracked (tag : Micros) (h : d.scan.enables.get ch = true)
    (ht : (d.ctx ch).state.tracked = true) :
    ∃ w, (d.nextFrame tag).wins.get ch = some w ∧ w.tip = none ∧ w.ring = none
      ∧ w.tipX = nineAround d.board.nx (d.ctx ch).peakTipX ∧ w.tipY = nineAround d.board.ny (d.ctx ch).peakTipY
      ∧ w.ringX = nineAround d.board.nx (d.ctx ch).peakRingX ∧ w.ringY = nineAround d.board.ny (d.ctx ch).peakRingY := by
  have hs : (d.ctx ch).state ≠ .search := by intro he; rw [he] at ht; cases ht
  have hi : (d.ctx ch).state ≠ .idle := by intro he; rw [he] at ht; cases ht
  refine ⟨_, Device.nextFrame_enabled tag h, ?_⟩
  simp [placeWindows, Device.started_busy tag hi, hs]

end

end Sys2Proof.Machine
end

section
/-!
PROOFS. CONTROL writes (R11, R12, R129, R135, R176, R180): the fields, the interrupt test, and RUN's frame start.
-/
namespace Sys2Proof.Machine

open Sys2Proof

/-- A word that has the bit as the row says and RESET 0 is taken as written. -/
theorem withBit_eq {w : BitVec 32} {n : Nat} {v : Bool} (h : n < 32) (hn : w.getLsbD n = v) (hr : w.getLsbD 4 = false) :
    withBit w n v = w := by
  ext i hi
  rw [BitVec.getLsbD_eq_getElem h] at hn
  rw [BitVec.getLsbD_eq_getElem (by decide)] at hr
  cases v <;> simp [withBit] <;> grind

/-- A word with RESET 0 is taken as written. -/
theorem withoutReset_eq {w : BitVec 32} (h : w.getLsbD 4 = false) : withoutReset w = w := by
  ext i hi
  simp only [BitVec.getLsbD_eq_getElem (by decide : 4 < 32)] at h
  simp only [withoutReset, BitVec.getElem_and, BitVec.getElem_not, BitVec.getElem_twoPow]
  grind

/-- The interrupt test may send a message or keep one pending, and does nothing else (R180). -/
theorem testInterrupt_frame (held : Bool) (d : Device) : ∃ sent msg, testInterrupt held d =
    { d with link := { d.link with sent := sent }, regs := { d.regs with msgPending := msg } } := by
  unfold testInterrupt messageDue
  split
  · split
    · exact ⟨d.link.sent, d.regs.msgPending, rfl⟩
    · split
      · split
        · exact ⟨_, _, rfl⟩
        · exact ⟨d.link.sent, _, rfl⟩
      · exact ⟨d.link.sent, d.regs.msgPending, rfl⟩
  · exact ⟨d.link.sent, _, rfl⟩

/-- With the interrupt condition as it was no message goes out, and a pending one is dropped where it does not hold
(R180). -/
theorem testInterrupt_same (d : Device) : testInterrupt d.regs.condition d =
    { d with regs := { d.regs with msgPending := d.regs.msgPending && d.regs.condition } } := by
  unfold testInterrupt
  cases h : d.regs.condition <;> simp

/-- The part with the fields of a CONTROL write, and what its interrupt test has sent and keeps pending. -/
def Device.withControl (d : Device) (w : BitVec 32) (sent : List LinkOut) (msg : Bool) : Device :=
  { d with
    link := { d.link with sent := sent }
    regs := { d.regs with
      run := w.getLsbD 0, intake := w.getLsbD 1, batch := w.getLsbD 2, mask := w.extractLsb' 8 4, msgPending := msg } }

/-- The fields of a CONTROL write, and what its interrupt test may send. -/
theorem controlFields_frame (w : BitVec 32) (d : Device) :
    ∃ sent msg, controlFields w d = d.withControl w sent msg :=
  testInterrupt_frame d.regs.condition (d.withControl w d.link.sent d.regs.msgPending)

/-- With the mask in force written again, the three fields change, and a pending message is dropped where the condition does
not hold. -/
theorem controlFields_sameMask {w : BitVec 32} {d : Device} (h : w.extractLsb' 8 4 = d.regs.mask) :
    controlFields w d = { d with regs := { d.regs with
      run := w.getLsbD 0, intake := w.getLsbD 1, batch := w.getLsbD 2,
      msgPending := d.regs.msgPending && d.regs.condition } } := by
  unfold controlFields setEventMask
  rw [h]
  exact testInterrupt_same _

/-- A CONTROL write without RESUME that does not end intake: the fields, and RUN's effect. -/
theorem controlWrite_eq {w : BitVec 32} {d d' : Device} (h3 : w.getLsbD 3 = false)
    (hi : d.regs.intake = true → w.getLsbD 1 = true) (he : runEdge d.regs.run (controlFields w d) = d')
    (hd : d'.regs.intake = w.getLsbD 1) : controlWrite w d = d' := by
  simp only [controlWrite, h3, Bool.false_eq_true, if_false, intakeEdge, he, hd]
  rw [if_neg]
  simpa using hi

/-- Without RUN going from 0 to 1, or with an engine that is not stopped, RUN starts nothing (R11). -/
theorem runEdge_none {was : Bool} {d : Device} (h : (d.regs.run = true → was = true) ∨ d.scan.engine ≠ .stopped) :
    runEdge was d = d := by
  unfold runEdge
  rw [if_neg]
  simp only [Bool.and_eq_true, Bool.not_eq_true', beq_iff_eq]
  rintro ⟨⟨hw, hr⟩, hs⟩
  rcases h with h | h
  · simp [h hr] at hw
  · exact h hs

/-- RUN written from 0 to 1 with the engine stopped starts a frame (R11). -/
theorem runEdge_starts {d : Device} (hr : d.regs.run = true) (hs : d.scan.engine = .stopped) (hn : d.NoSetup) :
    runEdge false d = Device.started { d with scan := { d.scan with elapsed := 0 } } d.clock := by
  rw [← startFrame_noSetup (d := { d with scan := { d.scan with elapsed := 0 } }) hn]
  simp [runEdge, hr, hs]

/-- RUN_CLEAR with a word its row allows is that CONTROL write. -/
theorem exec_runClear {w : BitVec 32} (h : (Instr.runClear w).wf = true) (s : State) :
    Sys2Proof.Machine.exec (.runClear w) s = .next (onDevice (controlWrite w) s) := by
  simp only [Instr.wf, Bool.and_eq_true, Bool.not_eq_true'] at h
  show Host.Outcome.next (onDevice (controlWrite (withBit w 0 false)) s) = _
  rw [withBit_eq (by decide) h.1 h.2]

/-- RUN_SET with a word its row allows is that CONTROL write. -/
theorem exec_runSet {w : BitVec 32} (h : (Instr.runSet w).wf = true) (s : State) :
    Sys2Proof.Machine.exec (.runSet w) s = .next (onDevice (controlWrite w) s) := by
  simp only [Instr.wf, Bool.and_eq_true, Bool.not_eq_true'] at h
  show Host.Outcome.next (onDevice (controlWrite (withBit w 0 true)) s) = _
  rw [withBit_eq (by decide) h.1 h.2]

/-- INTAKE_SET with a word its row allows is that CONTROL write. -/
theorem exec_intakeSet {w : BitVec 32} (h : (Instr.intakeSet w).wf = true) (s : State) :
    Sys2Proof.Machine.exec (.intakeSet w) s = .next (onDevice (controlWrite w) s) := by
  simp only [Instr.wf, Bool.and_eq_true, Bool.not_eq_true'] at h
  show Host.Outcome.next (onDevice (controlWrite (withBit w 1 true)) s) = _
  rw [withBit_eq (by decide) h.1 h.2]

/-- BATCH with a word its row allows is that CONTROL write. -/
theorem exec_batch {w : BitVec 32} (h : (Instr.batch w).wf = true) (s : State) :
    Sys2Proof.Machine.exec (.batch w) s = .next (onDevice (controlWrite w) s) := by
  simp only [Instr.wf, Bool.not_eq_true'] at h
  show Host.Outcome.next (onDevice (controlWrite (withoutReset w)) s) = _
  rw [withoutReset_eq h]

/-- Settles O8: RUN starts nothing, intake goes on, and the interrupt condition is as it was. -/
theorem plainControlWrites : Obligations.PlainControlWrites := by
  intro s w i hmem hwf h3 hmask hrun hintake
  have hfields := controlFields_sameMask hmask
  have hwrite : controlWrite w s.dev = { s.dev with regs := { s.dev.regs with
      run := w.getLsbD 0, intake := w.getLsbD 1, batch := w.getLsbD 2,
      msgPending := s.dev.regs.msgPending && s.dev.regs.condition } } := by
    refine controlWrite_eq h3 hintake ?_ rfl
    rw [hfields]
    exact runEdge_none (.inl hrun)
  have hexec : Sys2Proof.Machine.exec i s = .next (onDevice (controlWrite w) s) := by
    simp only [List.mem_cons, List.not_mem_nil, or_false] at hmem
    rcases hmem with rfl | rfl | rfl
    · exact exec_runClear hwf s
    · exact exec_intakeSet hwf s
    · exact exec_batch hwf s
  rw [hexec, onDevice, hwrite]

/-- Settles O7. -/
theorem runSetStartsFrame : Obligations.RunSetStartsFrame := by
  intro s w hwf h3 h1
  have hrun : w.getLsbD 0 = true := by simp only [Instr.wf, Bool.and_eq_true] at hwf; exact hwf.1
  have hin : s.dev.regs.intake = true → w.getLsbD 1 = true := by rw [h1]; exact id
  have hexec : ∀ {d}, controlWrite w s.dev = d →
      Sys2Proof.Machine.exec (.runSet w) s = .next { s with dev := d } := by
    rintro d rfl; exact exec_runSet hwf s
  obtain ⟨sent, msg, hfields⟩ := controlFields_frame w s.dev
  refine ⟨fun he => ?running, fun he hwas hslip hsetup => ?stopped⟩
  case running =>
    refine ⟨_, hexec (d := s.dev.withControl w sent msg) (controlWrite_eq h3 hin ?_ rfl), hrun, rfl, rfl⟩
    rw [hfields]
    exact runEdge_none (.inr he)
  case stopped =>
    let d := { s.dev.withControl w sent msg with scan := { s.dev.scan with elapsed := 0 } }
    have hstart : controlWrite w s.dev = d.started s.dev.clock := by
      refine controlWrite_eq h3 hin ?_ rfl
      rw [hfields, hwas]
      exact runEdge_starts hrun he hsetup
    refine ⟨_, _, hexec hstart, rfl, hrun, rfl, rfl, rfl, ?slipped, ?period, ?off, ?on, rfl, rfl, rfl, rfl, rfl, rfl, rfl, rfl⟩
    case slipped => simp [Device.nextFrame, d, hslip]
    case period => simp [Device.nextFrame, d, Device.withControl, hslip, framePeriod]
    case off => exact fun ch hoff => ⟨Device.nextFrame_disabled _ hoff, Device.started_disabled _ hoff⟩
    case on =>
      intro ch hon hidle
      have hctx : (d.started s.dev.clock).ctx ch = _ := Device.started_idle _ hon hidle
      rw [hctx]
      exact ⟨rfl, rfl, rfl, Device.nextFrame_search _ hon (by rw [hctx]; rfl)⟩

end Sys2Proof.Machine
end

section
/-!
PROOFS. The Link Port's settling where no producer waits, and where slot writes alone do (R106, R138, R161 to R163).
-/
namespace Sys2Proof.Machine

open Sys2Proof

/-- No producer waits for a free entry: the drain has no record or no capture, and no slot write, trace frame or bulk write
waits (R163). -/
structure Device.NoProducer (d : Device) : Prop where
  drain : d.delivery.holding = [] ∨ d.delivery.captures = []
  slotQueue : d.link.slotQueue = []
  staging : ∀ t, d.trace = some t → t.staging = []
  bulk : bulkGrant d = none

/-- No producer waits, and no write waits to be issued. -/
structure Device.Settled (d : Device) : Prop extends d.NoProducer where
  head : d.link.buffer = [] ∨ d.link.issued = true

theorem Device.Calm.noProducer {d : Device} (h : d.Calm) : d.NoProducer := ⟨.inl h.holding, h.slotQueue, h.staging, h.bulk⟩

theorem Device.Calm.settled {d : Device} (h : d.Calm) : d.Settled := ⟨h.noProducer, .inl h.buffer⟩

theorem Device.Calm.canIssue {d : Device} (h : d.Calm) : d.link.canIssue = true := by
  simp [LinkPort.canIssue, h.up, h.mastering]

/-- What concerns neither records held, captures, trace, slot writes nor Executor brings no producer. -/
theorem Device.NoProducer.keep {d d' : Device} (h : d.NoProducer) (hd : d'.delivery = d.delivery)
    (hq : d'.link.slotQueue = d.link.slotQueue) (ht : d'.trace = d.trace) (he : d'.exec = d.exec) : d'.NoProducer :=
  ⟨hd ▸ h.drain, hq.trans h.slotQueue, ht ▸ h.staging, bulkGrant_none_of_exec he h.bulk⟩

/-- What concerns neither records held, captures, trace, link nor Executor leaves the Link Port settled. -/
theorem Device.Settled.keep {d d' : Device} (h : d.Settled) (hd : d'.delivery = d.delivery) (hl : d'.link = d.link)
    (ht : d'.trace = d.trace) (he : d'.exec = d.exec) : d'.Settled :=
  ⟨h.toNoProducer.keep hd (by rw [hl]) ht he, by rw [hl]; exact h.head⟩

/-- A drain walk with no record or no capture changes nothing. -/
theorem offerDrain_idle {d : Device} (h : d.delivery.holding = [] ∨ d.delivery.captures = []) : offerDrain d = d := by
  have hw : drainWalk d = d := by
    rcases h with h | h
    · exact drainWalk_nil h
    · unfold drainWalk; split
      · rfl
      · rw [drainGo_nil h]; rfl
  unfold offerDrain; split <;> simp [hw]

/-- With no producer waiting no entry is granted. -/
theorem grantEntries_noProducer {d : Device} (h : d.NoProducer) (n : Nat) : grantEntries n d = d := by
  cases n with
  | zero => rfl
  | succ n =>
    have h1 : grantOne d = none := by
      unfold grantOne; split <;> simp [grantBelowDrain_none h.slotQueue h.staging h.bulk]
    simp only [grantEntries, offerDrain_idle h.drain, h1]

/-- A settled Link Port stays as it is. -/
theorem settleLink_settled {d : Device} (h : d.Settled) : settleLink d = d := by
  rw [settleLink, grants, grantEntries_noProducer h.toNoProducer, issueHead, if_pos]
  simpa using h.head

/-- The head of a buffer that holds a write is issued, or is being issued (R161). -/
theorem issueHead_issues {d : Device} (hc : d.link.canIssue = true) (hb : d.link.buffer ≠ []) :
    issueHead d = d.wrote d.link.buffer := by
  cases hi : d.link.issued
  · simp [issueHead, hb, hi, hc, Device.wrote]
  · rw [issueHead, if_pos (by simp [hi]), Device.wrote, ← hi]

/-- With no producer waiting, the head of a buffer that holds a write is issued. -/
theorem settleLink_issues {d : Device} (h : d.NoProducer) (hc : d.link.canIssue = true) (hb : d.link.buffer ≠ []) :
    settleLink d = d.wrote d.link.buffer := by
  rw [settleLink, grants, grantEntries_noProducer h, issueHead_issues hc hb]

/-! ### Slot writes (R138, R162) -/

/-- A slot write in the buffer; a DONE write clears its slot's mark. -/
def slotWriteIn (w : HostWrite) (d : Device) : Device := enterSlotWrite w d.link.slotQueue d

theorem slotWriteIn_noProducer {d : Device} (w : HostWrite) (h : d.NoProducer) : (slotWriteIn w d).NoProducer := by
  unfold slotWriteIn enterSlotWrite
  simp only
  split <;> exact h.keep rfl rfl rfl rfl

@[simp] theorem slotWriteIn_buffer (w : HostWrite) (d : Device) : (slotWriteIn w d).link.buffer = d.link.buffer ++ [w] := by
  unfold slotWriteIn enterSlotWrite
  simp only
  split <;> rfl

/-- The oldest slot write enters the buffer ahead of the rest. -/
theorem enterSlotWrite_handOver {d : Device} (w : HostWrite) (rest : List HostWrite) (h : d.link.slotQueue = []) :
    enterSlotWrite w rest (handOver (w :: rest) d) = handOver rest (slotWriteIn w d) := by
  unfold slotWriteIn enterSlotWrite
  simp only
  split <;> simp [handOver, enterBuffer, clearMark, h]

/-- Slot writes for which the buffer has room enter it in order, with no other producer waiting. -/
theorem grantEntries_handOver {ws : List HostWrite} : ∀ {n : Nat} {d : Device}, d.NoProducer → ws.length ≤ n →
    d.link.buffer.length + ws.length ≤ 4 →
    grantEntries n (handOver ws d) = ws.foldl (fun d w => slotWriteIn w d) d := by
  induction ws with
  | nil =>
    intro n d h _ _
    have hd : handOver [] d = d := by simp [handOver]
    rw [hd, List.foldl_nil, grantEntries_noProducer h]
  | cons w rest ih =>
    intro n d h hn hb
    obtain ⟨n, rfl⟩ : ∃ m, n = m + 1 := ⟨n - 1, by rw [List.length_cons] at hn; omega⟩
    have hfree : (handOver (w :: rest) d).link.free = true := by
      rw [List.length_cons] at hb
      rw [LinkPort.free, handOver_buffer, decide_eq_true_eq]
      omega
    have hq : (handOver (w :: rest) d).link.slotQueue = w :: rest := by simp [h.slotQueue]
    have h1 : grantOne (handOver (w :: rest) d) = some (handOver rest (slotWriteIn w d)) := by
      rw [grantOne, if_pos hfree, grantBelowDrain, hq, ← enterSlotWrite_handOver w rest h.slotQueue]
    rw [List.length_cons] at hn hb
    rw [grantEntries, offerDrain_idle (by exact h.drain), h1, List.foldl_cons]
    refine ih (slotWriteIn_noProducer w h) (by omega) ?_
    rw [slotWriteIn_buffer, List.length_append, List.length_singleton]
    omega

/-- A slot's mark is of that slot. -/
theorem Device.markOf_slot (d : Device) (slot : Fin 32) : (d.markOf slot).slot = slot := by
  unfold Device.markOf
  cases h : d.intake.inFlight.find? (fun m => m.slot == slot) with
  | none => rfl
  | some m => simpa using List.find?_some h

/-- A slot that completes with no other producer waiting and room in the buffer: its result and DONE stand in the buffer
and its mark is clear (R138). -/
theorem settleLink_completeSlot {d : Device} (h : d.NoProducer) (hc : d.link.canIssue = true)
    (hb : d.link.buffer.length ≤ 2) (slot : Fin 32) (st : Status) (dt : Detail) (fs : List Byte) :
    settleLink (completeSlot slot st dt fs d) = (clearMark slot d).wrote
      (d.link.buffer ++ [resultWrite (d.markOf slot) st dt fs, doneWrite (d.markOf slot)]) := by
  have hg : grants (completeSlot slot st dt fs d)
      = slotWriteIn (doneWrite (d.markOf slot)) (slotWriteIn (resultWrite (d.markOf slot) st dt fs) d) :=
    grantEntries_handOver h (by simp) (by simp; omega)
  have hin : slotWriteIn (doneWrite (d.markOf slot)) (slotWriteIn (resultWrite (d.markOf slot) st dt fs) d)
      = { clearMark slot d with link := { d.link with
          buffer := d.link.buffer ++ [resultWrite (d.markOf slot) st dt fs, doneWrite (d.markOf slot)] } } := by
    simp [slotWriteIn, enterSlotWrite, resultWrite, doneWrite, enterBuffer, clearMark, d.markOf_slot slot]
  rw [settleLink, hg, hin]
  exact issueHead_issues hc (by simp)

end Sys2Proof.Machine
end

section
/-!
PROOFS. Frame boundaries and the Sync Tracker (R4, R9, R12, R15, R16, R18, R19).
-/
namespace Sys2Proof.Machine

open Sys2Proof

/-! ### A boundary's shape (R4) -/

/-- The part with its frame timer started again. -/
abbrev Device.retimed (d : Device) : Device := { d with scan := { d.scan with elapsed := 0 } }

/-- A frame without results steps no channel (R9). -/
theorem goBoundary_unheard {f : Frame} (h : f.Unheard) (realign : Bool) (d : Device) :
    goBoundary [.a, .b] f realign d = closeBoundary f realign d := by
  simp [goBoundary, runSteps, h.1, h.2]

/-- With RUN 1 a boundary ends in the next frame's start. -/
theorem closeBoundary_run {d : Device} (f : Frame) (h : d.regs.run = true) :
    closeBoundary f false d = startFrame (countFrame d) := by simp [closeBoundary, h]

/-- With RUN 0 a boundary ends in the stop. -/
theorem closeBoundary_stop {d : Device} (f : Frame) (h : d.regs.run = false) :
    closeBoundary f false d = stopEngine f (countFrame d) := by simp [closeBoundary, h]

/-- The part at a frame's end: the frame timer starts again, and the frame counts (R4). -/
def Device.frameEnded (d : Device) : Device := countFrame d.retimed

/-- The part realigned: its next frame started, the slip counted, the tracker in CENTRE and the loss timer started (R19). -/
def Device.realigned (d : Device) : Device :=
  { countSlip (d.frameEnded.started d.clock) with
    scan := { (d.frameEnded.started d.clock).scan with tracker := .centre, lossElapsed := 0 } }

/-- A cut frame without results ends in a realigned start (R19). -/
theorem goBoundary_realigns {d : Device} {f : Frame} (hu : f.Unheard) (hr : d.regs.run = true) (hs : d.NoSetup) :
    goBoundary [.a, .b] f true d.retimed = d.realigned := by
  have hstart : startFrame d.frameEnded = d.frameEnded.started d.clock := startFrame_noSetup hs
  simp only [goBoundary_unheard hu, closeBoundary, hr, if_true]
  exact congrArg (fun e : Device => { countSlip e with scan := { e.scan with tracker := .centre, lossElapsed := 0 } }) hstart

/-- With no arrival kept and no boundary in progress, none is taken. -/
theorem afterBoundary_none {d : Device} (hb : ∀ b, d.scan.engine ≠ .boundary b) (ha : d.scan.arrivals = []) :
    afterBoundary d = d := by
  unfold afterBoundary
  split
  · next b he => exact absurd he (hb b)
  · rw [ha, takeArrivals, ← ha]

/-- With no arrival kept, none is taken at a frame start. -/
theorem afterBoundary_started {d : Device} (tag : Micros) (ha : d.scan.arrivals = []) :
    afterBoundary (d.started tag) = d.started tag := afterBoundary_none (fun _ h => nomatch h) ha

/-- Within a boundary the arrivals stay kept. -/
theorem afterBoundary_within {d : Device} {b : Boundary} (h : d.scan.engine = .boundary b) : afterBoundary d = d := by
  simp [afterBoundary, h]

/-- A frame whose period is over has its boundary (R4). -/
theorem frameExpiry_due {d : Device} {f : Frame} (he : d.scan.engine = .running f) (hp : f.period ≤ d.scan.elapsed) :
    frameExpiry d
      = settleLink (afterBoundary (goBoundary [.a, .b] f false d.retimed)) := by
  simp [frameExpiry, he, hp, Device.retimed]

/-- Before its period is over a frame runs on (log entry 11). -/
theorem frameExpiry_early {d : Device} {f : Frame} (he : d.scan.engine = .running f) (hp : d.scan.elapsed < f.period) :
    frameExpiry d = d := by
  simp [frameExpiry, he, Nat.not_le.2 hp]

/-! ### Sync arrivals (R15, R18, R19) -/

/-- The edge the sync polarity selects (R15). -/
theorem Board.isArrival_iff (b : Board) (e : Edge) : b.isArrival e = true ↔ (e = .falling ↔ b.falling = true) := by
  cases e <;> cases h : b.falling <;> simp [Board.isArrival, h]

/-- What a loss-timer expiry does: nothing, or the tracker in FREE (R18). -/
theorem lossExpiry_eq (d : Device) : lossExpiry d =
    if d.scan.engine = .stopped ∨ d.scan.tracker = .free ∨ d.scan.lossElapsed < 100000 then d else trackerFree d := by
  unfold lossExpiry
  split
  · next h => rw [if_neg (by simp [h.1, h.2.1]; omega)]
  · next h =>
    rw [if_pos]
    by_contra hn
    simp only [not_or, Nat.not_lt] at hn
    exact h hn

/-- An arrival in FREE cuts the frame (R19). -/
theorem takeArrival_free {d : Device} {f : Frame} (t : Nat) (he : d.scan.engine = .running f)
    (ht : d.scan.tracker = .free) :
    takeArrival t d = goBoundary [.a, .b] { f with slipped := true } true
      { d with scan := { d.scan with elapsed := d.scan.elapsed - t } } := by
  simp [takeArrival, he, ht]

/-- An arrival in step is measured (R16). -/
theorem takeArrival_inStep {d : Device} {f : Frame} (t : Nat) (he : d.scan.engine = .running f)
    (ht : d.scan.tracker ≠ .free) : takeArrival t d = measureArrival t f d := by
  simp [takeArrival, he, ht]

/-- A frame marked slipped hands over the same results, so marked (R17). -/
theorem Frame.results_slipped (f : Frame) (v : Bool) (ch : Channel) :
    Frame.results { f with slipped := v } ch = (f.results ch).map fun r => { r with slipped := v } := by
  unfold Frame.results
  simp only
  split <;> rfl

/-- Marking a frame slipped gives it no results. -/
theorem Frame.unheard_slipped {f : Frame} (h : f.Unheard) (v : Bool) : Frame.Unheard { f with slipped := v } := by
  simp [Frame.Unheard, Frame.results_slipped, h.1, h.2]

/-- Settles O22. -/
theorem syncRealignsAndLossFrees : Obligations.SyncRealignsAndLossFrees := by
  intro s edge
  have hloss : ∀ {d}, lossExpiry s.dev = d → Sys2Proof.Machine.exec .lossTimerExpiry s = .next { s with dev := d } := by
    rintro d rfl; rfl
  have hsync : ∀ {d}, syncEdge edge s.dev = d →
      Sys2Proof.Machine.exec (.syncArrival edge) s = .next { s with dev := d } := by rintro d rfl; rfl
  refine ⟨fun he ht hl => ?frees, fun h => ?early, fun h => ?otherEdge, fun h => ?stopped, fun b hedge hb => ?within,
    fun f hedge he ht hslip harr hun hcalm hsetup hrun => ?realigns⟩
  case frees => exact hloss (by rw [lossExpiry_eq, if_neg (by simp [he, ht]; omega)]; rfl)
  case early => exact hloss (by rw [lossExpiry_eq, if_pos h])
  case otherEdge =>
    rw [← Board.isArrival_iff] at h
    exact hsync (by simp [syncEdge, h])
  case stopped => exact hsync (by simp [syncEdge, h])
  case within =>
    rw [← Board.isArrival_iff] at hedge
    exact hsync (by simp [syncEdge, hedge, hb])
  case realigns =>
    rw [← Board.isArrival_iff] at hedge
    have htake : takeArrival s.dev.scan.elapsed s.dev = s.dev.realigned := by
      rw [takeArrival_free _ he ht, Nat.sub_self, goBoundary_realigns (f.unheard_slipped hun true) hrun hsetup]
    have hafter : afterBoundary s.dev.realigned = s.dev.realigned := afterBoundary_none (fun _ h => nomatch h) harr
    have hsettle : settleLink s.dev.realigned = s.dev.realigned := settleLink_settled (hcalm.settled.keep rfl rfl rfl rfl)
    have hd : syncEdge edge s.dev = s.dev.realigned := by
      simp only [syncEdge, hedge, if_true, he, htake, hafter, hsettle]
    refine ⟨_, s.dev.frameEnded.nextFrame s.dev.clock, hsync hd, rfl, ?part, rfl, ?slipped, ?period⟩
    case part => simp only [hslip]; rfl
    case slipped => simp [Device.nextFrame, Device.frameEnded, hslip]
    case period => simp [Device.nextFrame, Device.frameEnded, hslip, framePeriod]

end Sys2Proof.Machine
end

section
/-!
PROOFS. The slips counter while the Link Port settles (R163, R169, R184): only a COUNTERS post clears counters, so with none
at the Executor the slips counter stays.
-/
namespace Sys2Proof.Machine

open Sys2Proof

/-- What the slips counter depends on: itself, and the Executor's post. -/
def Device.slipView (d : Device) : BitVec 32 × Option CurrentPost := (d.counters.slips, d.exec)

/-- The slips counter stands at n, and no COUNTERS post will clear it. -/
structure Device.SlipsAt (n : BitVec 32) (d : Device) : Prop where
  slips : d.counters.slips = n
  exec : ∀ slot dest clear, d.exec ≠ some { slot := slot, work := .counters dest clear }

variable {n : BitVec 32} {d d' : Device}

theorem Device.SlipsAt.of_view (h : d.SlipsAt n) (hv : d'.slipView = d.slipView) : d'.SlipsAt n := by
  obtain ⟨hs, he⟩ := Prod.mk.inj hv
  exact ⟨hs.trans h.slips, he ▸ h.exec⟩

/-- The Executor's becoming idle brings no COUNTERS post. -/
theorem Device.SlipsAt.idle (h : d.SlipsAt n) : Device.SlipsAt n { d with exec := none } :=
  ⟨h.slips, fun _ _ _ he => nomatch he⟩

/-- Nor does another kind of work. -/
theorem Device.SlipsAt.setWork (h : d.SlipsAt n) {w : Work} (hw : ∀ dest clear, w ≠ .counters dest clear) :
    (setWork w d).SlipsAt n := by
  refine ⟨h.slips, fun slot dest clear he => ?_⟩
  cases hp : d.exec with
  | none => simp [Machine.setWork, hp] at he
  | some p =>
    simp only [Machine.setWork, hp, Option.map_some, Option.some.injEq, CurrentPost.mk.injEq] at he
    exact hw dest clear he.2

/-! ### What touches neither the slips counter nor the Executor's post -/

@[simp] theorem slipView_setCause (c : Cause) (d : Device) : (setCause c d).slipView = d.slipView := by
  obtain ⟨_, _, h⟩ := testInterrupt_frame d.regs.condition
    { d with regs := { d.regs with event := d.regs.event ||| c.bits, mask := d.regs.mask } }
  rw [setCause, setEventMask, h]; rfl

@[simp] theorem slipView_completeCapture (c : Capture) (r : Reason) (d : Device) :
    (completeCapture c r d).slipView = d.slipView := by cases r <;> rfl

@[simp] theorem slipView_placeIn (c : Capture) (r : Record) (d : Device) : (placeIn c r d).slipView = d.slipView := by
  unfold placeIn settleCapture
  split
  · rw [slipView_completeCapture]; rfl
  · rfl

theorem slipView_drainGo (q : List Record) :
    ∀ (b : PerChannel Bool) (d : Device), (drainGo q b d).2.slipView = d.slipView := by
  induction q with
  | nil => intro b d; rfl
  | cons r rest ih =>
    intro b d
    unfold drainGo
    split
    · exact ih _ _
    · split
      · exact ih _ _
      · split
        · rw [ih, slipView_placeIn]
        · rfl

@[simp] theorem slipView_offerDrain (d : Device) : (offerDrain d).slipView = d.slipView := by
  unfold offerDrain drainWalk
  split
  · split
    · rfl
    · exact slipView_drainGo _ _ d
  · rfl

@[simp] theorem slipView_enterSlotWrite (w : HostWrite) (rest : List HostWrite) (d : Device) :
    (enterSlotWrite w rest d).slipView = d.slipView := by
  unfold enterSlotWrite; simp only; split <;> rfl

@[simp] theorem slipView_stageOut (t : TraceJob) (f : TraceFrame) (rest : List TraceFrame) (d : Device) :
    (stageOut t f rest d).slipView = d.slipView := by
  unfold stageOut; simp only; split <;> rfl

@[simp] theorem slipView_faultTrace (d : Device) : (faultTrace d).slipView = d.slipView := by
  unfold faultTrace; split <;> rfl

@[simp] theorem slipView_arbitrate (d : Device) : (arbitrate d).slipView = d.slipView := by
  unfold arbitrate
  split
  · rfl
  · split
    · rfl
    · next who _ =>
      obtain ⟨m, hm⟩ := grantWrite_eq d
      cases who
      · rfl
      · simp only [grantTo, if_true, hm]; rfl
      · rfl

theorem slipView_countOutcome (o : ReadOutcome) (d : Device) : (countOutcome o d).slipView = d.slipView := by
  cases o <;> rfl

@[simp] theorem slipView_noteRead (node : Nat) (r : NodeRead) (who : Requester) (d : Device) :
    (noteRead node r who d).slipView = d.slipView := by
  unfold noteRead offerLog
  split
  · exact slipView_countOutcome _ d
  · split
    · exact slipView_countOutcome _ d
    · rw [slipView_setCause]; exact slipView_countOutcome _ d

/-! ### What may end the Executor's post, or go on with it -/

theorem Device.SlipsAt.completePost (h : d.SlipsAt n) (st : Status) (dt : Detail) (fs : List Byte) :
    (completePost st dt fs d).SlipsAt n := by
  unfold Machine.completePost
  split
  · exact h
  · exact h.idle.of_view rfl

theorem Device.SlipsAt.answerExec (h : d.SlipsAt n) (g : Grant) : (answerExec g d).SlipsAt n := by
  unfold Machine.answerExec
  split
  · exact ((h.of_view (slipView_noteRead _ _ _ d)).setWork (w := .mapLoad _) (by simp)).of_view rfl
  · exact ((h.of_view (slipView_countOutcome _ d)).setWork (w := .mapRead _) (by simp)).of_view rfl
  · exact h.of_view rfl

theorem Device.SlipsAt.bulkGrant (h : d.SlipsAt n) (hg : bulkGrant d = some d') : d'.SlipsAt n := by
  unfold Machine.bulkGrant at hg
  split at hg
  · split at hg
    · cases hg
      unfold bulkMapRead
      simp only
      split
      · refine Device.SlipsAt.completePost ?_ _ _ _
        exact (h.setWork (w := .mapRead _) (by simp)).of_view rfl
      · refine Device.SlipsAt.of_view ?_ (slipView_arbitrate _)
        exact (h.setWork (w := .mapRead _) (by simp)).of_view rfl
    · cases hg
  · next he => exact absurd he (h.exec _ _ _)
  · cases hg

/-! ### The Link Port's settling -/

theorem Device.SlipsAt.grantOne (h : d.SlipsAt n) (hg : grantOne d = some d') : d'.SlipsAt n := by
  unfold Machine.grantOne grantBelowDrain at hg
  split at hg
  · split at hg
    · cases hg; exact h.of_view (slipView_enterSlotWrite _ _ d)
    · split at hg
      · split at hg
        · cases hg; exact h.of_view (slipView_stageOut _ _ _ d)
        · exact h.bulkGrant hg
      · exact h.bulkGrant hg
  · cases hg

theorem Device.SlipsAt.grantEntries (k : Nat) : ∀ {d : Device}, d.SlipsAt n → (grantEntries k d).SlipsAt n := by
  induction k with
  | zero => exact id
  | succ k ih =>
    intro d h
    have ho : (offerDrain d).SlipsAt n := h.of_view (slipView_offerDrain d)
    unfold Machine.grantEntries
    split
    · next hg => exact ih (ho.grantOne hg)
    · exact ho

theorem Device.SlipsAt.faultExec (h : d.SlipsAt n) : (faultExec d).SlipsAt n := by
  have hfin : (finishExecGrant d).SlipsAt n := by
    unfold finishExecGrant
    split
    · split
      · exact h.answerExec _
      · exact h
    · exact h
  unfold Machine.faultExec failExec
  split
  · exact h
  · split
    · exact hfin.of_view rfl
    · refine Device.SlipsAt.of_view ?_ (slipView_arbitrate _)
      have hout : (withdrawExec (finishExecGrant d)).SlipsAt n := hfin.of_view rfl
      exact hout.completePost _ _ _

/-- An entry into HALTED keeps the slips counter. -/
theorem Device.SlipsAt.enterHalted (h : d.SlipsAt n) : (enterHalted d).SlipsAt n := by
  have h1 : (Machine.faultExec (faultSweep { d with link := { d.link with
      halted := true, inFlight := none, waiting := [] } })).SlipsAt n := Device.SlipsAt.faultExec (h.of_view rfl)
  exact Device.SlipsAt.grantEntries 4 ((h1.of_view rfl).of_view (slipView_faultTrace _))

theorem Device.SlipsAt.issueHead (h : d.SlipsAt n) : (issueHead d).SlipsAt n := by
  have hblocked : (blockedClass d).2.slipView = d.slipView := by
    unfold blockedClass
    split
    · rfl
    · split <;> rfl
  have hrecord : ∀ (cls : FaultClass) (site : Site) (slot : Option (Fin 32)) (d : Device),
      (recordFault cls site slot d).slipView = d.slipView := by
    intro cls site slot d; unfold recordFault; split <;> rfl
  unfold Machine.issueHead
  split
  · exact h
  · split
    · exact h.of_view rfl
    · split
      · exact h
      · refine Device.SlipsAt.enterHalted (h.of_view ?_)
        rw [slipView_setCause, hrecord, hblocked]

/-- The Link Port's settling keeps the slips counter, with no COUNTERS post at the Executor. -/
theorem Device.SlipsAt.settleLink (h : d.SlipsAt n) : (settleLink d).SlipsAt n :=
  Device.SlipsAt.issueHead (Device.SlipsAt.grantEntries 4 h)

/-! ### A sync arrival in step (R16) -/

/-- A phase error within 20 µs centres the tracker. -/
theorem trackerMove_small {e : Int} (st : SyncState) (h : |e| ≤ 20) : trackerMove e st = (.centre, none) := by
  rw [Int.abs_eq_natAbs] at h
  rw [trackerMove, if_pos (by omega)]

/-- A second arrival late by more than 60 µs sets a slip. -/
theorem trackerMove_slipLead {e : Int} {st : SyncState} (h : 60 < |e|) (he : 0 < e) (hs : st = .lead) :
    trackerMove e st = (.centre, some .lead) := by
  rw [Int.abs_eq_natAbs] at h
  rw [trackerMove, if_neg (by omega), if_pos he, if_pos ⟨by omega, hs⟩]

/-- A second arrival early by more than 60 µs sets a slip. -/
theorem trackerMove_slipLag {e : Int} {st : SyncState} (h : 60 < |e|) (he : e < 0) (hs : st = .lag) :
    trackerMove e st = (.centre, some .lag) := by
  rw [Int.abs_eq_natAbs] at h
  rw [trackerMove, if_neg (by omega), if_neg (by omega), if_pos ⟨by omega, hs⟩]

/-- Any other late arrival brings the tracker to LEAD. -/
theorem trackerMove_lead {e : Int} {st : SyncState} (h : 20 < |e|) (he : 0 < e) (hs : ¬(60 < |e| ∧ st = .lead)) :
    trackerMove e st = (.lead, none) := by
  rw [Int.abs_eq_natAbs] at h hs
  rw [trackerMove, if_neg (by omega), if_pos he, if_neg (fun hn => hs ⟨by omega, hn.2⟩)]

/-- Any other early arrival brings the tracker to LAG. -/
theorem trackerMove_lag {e : Int} {st : SyncState} (h : 20 < |e|) (he : e < 0) (hs : ¬(60 < |e| ∧ st = .lag)) :
    trackerMove e st = (.lag, none) := by
  rw [Int.abs_eq_natAbs] at h hs
  rw [trackerMove, if_neg (by omega), if_neg (by omega), if_neg (fun hn => hs ⟨by omega, hn.2⟩)]

/-- No slip is set but by the two rows of R16 that set one. -/
theorem trackerMove_none {e : Int} {st : SyncState}
    (h : ¬(60 < |e| ∧ ((0 < e ∧ st = .lead) ∨ (e < 0 ∧ st = .lag)))) : (trackerMove e st).2 = none := by
  rcases le_or_gt |e| 20 with hs | hs
  · rw [trackerMove_small st hs]
  · have hne : e ≠ 0 := by rintro rfl; simp at hs
    rcases lt_or_gt_of_ne hne with he | he
    · rw [trackerMove_lag hs he fun hn => h ⟨hn.1, .inr ⟨he, hn.2⟩⟩]
    · rw [trackerMove_lead hs he fun hn => h ⟨hn.1, .inl ⟨he, hn.2⟩⟩]

/-- The part after an arrival in step that moves the tracker so: a slip set replaces the pending one and counts, and the
loss timer starts again (R16). -/
def Device.measured (d : Device) (m : SyncState × Option Slip) : Device :=
  { d with
    scan := { d.scan with tracker := m.1, slip := m.2.or d.scan.slip, lossElapsed := 0 }
    counters := { d.counters with slips := d.counters.slips + if m.2.isSome then 1 else 0 } }

theorem measureArrival_eq (t : Nat) (f : Frame) (d : Device) :
    measureArrival t f d = d.measured (trackerMove (phaseError t f.period) d.scan.tracker) := by
  unfold measureArrival Device.measured
  cases hm : (trackerMove (phaseError t f.period) d.scan.tracker).2 <;> simp [hm, countSlip]

/-- A sync arrival in step: the tracker's move, and the settling of the Link Port. -/
theorem syncEdge_inStep {d : Device} {f : Frame} {edge : Edge} (he : d.scan.engine = .running f)
    (ht : d.scan.tracker ≠ .free) (ha : d.scan.arrivals = []) (hedge : d.board.isArrival edge = true) :
    syncEdge edge d = settleLink (d.measured (trackerMove (phaseError d.scan.elapsed f.period) d.scan.tracker)) := by
  have hafter : ∀ m, afterBoundary (d.measured m) = d.measured m := fun m =>
    afterBoundary_none (fun b hb => nomatch he.symm.trans hb) ha
  simp only [syncEdge, hedge, if_true, he, takeArrival_inStep _ he ht, measureArrival_eq, hafter]

/-- Settles O21: the row of R16's table, and a Link Port whose settling keeps the slips counter. -/
theorem syncArrivalMovesTracker : Obligations.SyncArrivalMovesTracker := by
  intro s f edge he ht harr hedge hpost e st
  let m := trackerMove e st
  have hexec : Sys2Proof.Machine.exec (.syncArrival edge) s = .next { s with dev := settleLink (s.dev.measured m) } := by
    have hsync : syncEdge edge s.dev = settleLink (s.dev.measured m) :=
      syncEdge_inStep he ht harr ((Board.isArrival_iff _ _).2 hedge)
    rw [← hsync]; rfl
  have hkept := kept_settleLink (s.dev.measured m)
  have hscan : (settleLink (s.dev.measured m)).scan = (s.dev.measured m).scan := congrArg Kept.scan hkept
  have hmove : (settleLink (s.dev.measured m)).scan.tracker = m.1 := congrArg ScanEngine.tracker hscan
  have hslip : (settleLink (s.dev.measured m)).scan.slip = m.2.or s.dev.scan.slip := congrArg ScanEngine.slip hscan
  have hcount : (settleLink (s.dev.measured m)).counters.slips
      = s.dev.counters.slips + if m.2.isSome then 1 else 0 :=
    (Device.SlipsAt.settleLink (d := s.dev.measured m) ⟨rfl, hpost⟩).slips
  refine ⟨_, hexec, rfl, ?scan, congrArg Kept.chans hkept, congrArg Kept.clock hkept, ?small, ?lead, ?lag, ?slipLead,
    ?slipLag, ?lateLead, ?earlyLag, ?slips, ?noSlip⟩
  case scan => simp only [hscan]; rfl
  case small => exact fun h => hmove.trans (congrArg Prod.fst (trackerMove_small st h))
  case lead => exact fun h h60 hpos => hmove.trans (congrArg Prod.fst (trackerMove_lead h hpos (by omega)))
  case lag => exact fun h h60 hneg => hmove.trans (congrArg Prod.fst (trackerMove_lag h hneg (by omega)))
  case slipLead =>
    intro h hpos hst
    have hm : m = _ := trackerMove_slipLead h hpos hst
    exact ⟨hmove.trans (by rw [hm]), hslip.trans (by rw [hm]; rfl)⟩
  case slipLag =>
    intro h hneg hst
    have hm : m = _ := trackerMove_slipLag h hneg hst
    exact ⟨hmove.trans (by rw [hm]), hslip.trans (by rw [hm]; rfl)⟩
  case lateLead =>
    exact fun h hpos hst => hmove.trans (congrArg Prod.fst (trackerMove_lead (by omega) hpos (fun hn => hst hn.2)))
  case earlyLag =>
    exact fun h hneg hst => hmove.trans (congrArg Prod.fst (trackerMove_lag (by omega) hneg (fun hn => hst hn.2)))
  case slips =>
    rintro ⟨h, ⟨hpos, hst⟩ | ⟨hneg, hst⟩⟩
    · exact hcount.trans (by rw [show m = _ from trackerMove_slipLead h hpos hst]; rfl)
    · exact hcount.trans (by rw [show m = _ from trackerMove_slipLag h hneg hst]; rfl)
  case noSlip =>
    intro h
    have hm : m.2 = none := trackerMove_none h
    exact ⟨hcount.trans (by simp [hm]), hslip.trans (by simp [hm])⟩

end Sys2Proof.Machine
end

section
/-!
PROOFS. FRAME_BOUNDARY with RUN 1 (R4, R9, R17, R21 to R26, R40): the channels' steps, the wait for the Solver's reads, and the
next frame.
-/
namespace Sys2Proof.Machine

open Sys2Proof

/-! ### A step that waits for map reads (R40) -/

/-- A step of Device.Waits gives the computation that waits. -/
theorem stepChannel_waits {d : Device} {ch : Channel} {r : FrameResults} {c1 c : Context} {job : SolverJob}
    (h : d.Waits ch r c1 c job) : stepChannel ch r d = ((d.tallied (d.fails ch c1)).setCtx ch c, some job) := by
  cases h with
  | @intro res y hh hg hm hb ha =>
    have hstate : c1.state = (d.ctx ch).state := by
      have h := congrArg Context.state (Context.hears_frame hh); exact h
    have hcount : c.hoverCount = c1.hoverCount := by
      obtain ⟨-, st, n, k, b, hc⟩ := Context.yields_frame hm
      rw [hc]; rfl
    have hheld : heldBack d.scan.divisor c y = false := by
      simp [heldBack, Yield.plainHover, hcount]; simpa [Context.holds, and_assoc] using hb
    rw [stepChannel]
    simp only [← Context.hears_eq hh, fails_eq, Profiles.resolve_eq hg]
    rw [← hstate, Context.noteProfile_eq, Context.transition_yields hm]
    simp [hheld, ha]

/-- A waiting step depends on the channel's context, the profiles, the divisor and the map state alone. -/
theorem Device.Waits.of_eq {d d' : Device} {ch : Channel} {r : FrameResults} {c1 c : Context} {job : SolverJob}
    (h : d.Waits ch r c1 c job) (hc : d'.ctx ch = d.ctx ch) (hp : d'.profiles = d.profiles)
    (hs : d'.scan.divisor = d.scan.divisor) (hm : d'.map.state = d.map.state) : d'.Waits ch r c1 c job := by
  cases h with
  | intro hh hg hv hb ha =>
    exact .intro (hc ▸ hh) (by rw [hc, hp]; exact hg) hv (by rw [hs]; exact hb) (by rw [hm]; exact ha)

/-- A computation that waits has no read answered yet. -/
theorem Device.Waits.got {d : Device} {ch : Channel} {r : FrameResults} {c1 c : Context} {job : SolverJob}
    (h : d.Waits ch r c1 c job) : job.got = [] := by
  cases h; rfl

/-- The first node of a record's reads (R51, log entry 30). -/
theorem SolverJob.node_first (b : Board) {job : SolverJob} (h : job.got = []) :
    job.node b = (stages b job.results job.profile).y / 1024 * (b.nx / 4 + 1)
      + (stages b job.results job.profile).x / 1024 := by
  simp [SolverJob.node, h, cellNode, Board.nodesX, Board.nx]

/-- The part within a boundary, the first map read of this computation granted (R40, R65). -/
def Device.waitsFor (d : Device) (f : Frame) (job : SolverJob) (todo : List Channel) : Device :=
  { d with
    scan := { d.scan with engine := .boundary { frame := f, realign := false, job := job, todo := todo } }
    map := { d.map with
      grant := some { who := .solver, node := job.node d.board, word := readNode d.map.nodes (job.node d.board) }
      solverWaiting := false } }

/-- A Solver's request at a free port with no other waiting is granted at once (R65). -/
theorem requestSolver_waitsFor {d : Device} (f : Frame) (job : SolverJob) (todo : List Channel) (hg : d.map.grant = none)
    (he : d.map.execWaiting = false) (hs : d.map.scrubWaiting = false) :
    requestSolver { d with scan := { d.scan with
      engine := .boundary { frame := f, realign := false, job := job, todo := todo } } } = d.waitsFor f job todo := by
  simp [requestSolver, arbitrate, hg, CorrectionMap.choose, he, hs, grantTo, passAfter, Device.requestNode, Device.job,
    Device.waitsFor]

/-- A channel's step of Device.Waits makes the boundary wait. -/
theorem runSteps_waits {d : Device} {f : Frame} {ch : Channel} {r : FrameResults} {c1 c : Context} {job : SolverJob}
    (rest : List Channel) (hr : f.results ch = some r) (hw : d.Waits ch r c1 c job) (hg : d.map.grant = none)
    (he : d.map.execWaiting = false) (hs : d.map.scrubWaiting = false) :
    runSteps (ch :: rest) f false d = (((d.tallied (d.fails ch c1)).setCtx ch c).waitsFor f job rest, false) := by
  rw [runSteps, hr, ← requestSolver_waitsFor f job rest (by exact hg) (by exact he) (by exact hs)]
  simp only [stepChannel_waits hw]

/-! ### The link at a boundary -/

/-- A calm part at a boundary stays settled while no capture is open or no record comes. -/
theorem Device.Calm.settled_of {d d' : Device} (h : d.Calm) (hd : d'.delivery.holding = [] ∨ d'.delivery.captures = [])
    (hl : d'.link = d.link) (ht : d'.trace = d.trace) (he : d'.exec = d.exec) : d'.Settled where
  drain := hd
  slotQueue := by rw [hl]; exact h.slotQueue
  staging := ht ▸ h.staging
  bulk := bulkGrant_none_of_exec he h.bulk
  head := .inl (by rw [hl]; exact h.buffer)

/-- A calm part that lends no capture and holds no trace is unlent. -/
theorem Device.Calm.unlent {d : Device} (h : d.Calm) (ht : d.trace = none) (hc : d.delivery.captures = []) : d.Unlent :=
  ⟨hc, ht, h.buffer, h.slotQueue, h.bulk⟩

/-- A channel that is handed no results produces no record (R9). -/
theorem Device.Ends.unheard_none {d : Device} {f : Frame} {ch : Channel} {c : Context} {q : Option Record} {n : BitVec 32}
    (h : d.Ends f ch c q n) (hf : f.results ch = none) : q = none := by
  cases h with
  | unheard => rfl
  | heard hr => rw [hf] at hr; cases hr

/-! ### The boundary -/

section
variable {d : Device} {f : Frame} {ca cb : Context} {qa qb : Option Record} {na nb : BitVec 32}

/-- The part once both channels have stepped, the frame timer at 0 and the frame counted. -/
def Device.bothStepped (d : Device) (ca cb : Context) (qa qb : Option Record) (na nb : BitVec 32) : Device :=
  countFrame ((d.retimed.stepped .a ca qa na).stepped .b cb qb nb)

/-- A record produced counts for its channel. -/
theorem PerChannel.bump_if (p : PerChannel (BitVec 32)) (ch : Channel) (q : Option Record) :
    (if q.isSome then p.bump ch else p) = p.set ch (p.get ch + if q = none then 0 else 1) := by
  cases q
  · cases ch <;> simp [PerChannel.set, PerChannel.get]
  · simp [PerChannel.bump]

/-- Both steps field by field, where no record was held before. -/
theorem Device.bothStepped_eq (hh : d.delivery.holding = []) : d.bothStepped ca cb qa qb na nb =
    { d with
      chans := { a := ca, b := cb }
      scan := { d.scan with elapsed := 0 }
      delivery := { d.delivery with holding := qa.toList ++ qb.toList }
      counters := { d.counters with
        framesRun := d.counters.framesRun + 1
        identFailures := d.counters.identFailures + na + nb
        produced :=
          { a := d.counters.produced.a + if qa = none then 0 else 1
            b := d.counters.produced.b + if qb = none then 0 else 1 } } } := by
  simp only [Device.bothStepped, countFrame, Device.stepped, PerChannel.bump_if, hh, List.nil_append]
  rfl

/-- What a channel's step may need: results come only to a part that lends no capture and holds no trace. -/
def Device.Hearing (d : Device) (f : Frame) : Prop := f.Unheard ∨ (d.trace = none ∧ d.delivery.captures = [])

theorem Device.Hearing.unlent (h : d.Hearing f) (hcalm : d.Calm) {ch : Channel} (hf : f.results ch ≠ none) : d.Unlent := by
  rcases h with h | h
  · cases ch
    · exact absurd h.1 hf
    · exact absurd h.2 hf
  · exact hcalm.unlent h.1 h.2

/-- Channel A's step of Device.Ends at a boundary. -/
theorem runSteps_a (hcalm : d.Calm) (hq : d.Hearing f) (ha : d.Ends f .a ca qa na) (rest : List Channel) :
    runSteps (.a :: rest) f false d.retimed
      = runSteps rest f false (d.retimed.stepped .a ca qa na) :=
  runSteps_ends (s := d) rfl rfl rfl rfl rfl
    (fun hf => ⟨(hq.unlent hcalm hf).keep rfl rfl rfl rfl, by rw [hcalm.holding]; decide⟩) ha

/-- With both channels of Device.Ends the next frame starts. -/
theorem goBoundary_ends (hcalm : d.Calm) (hq : d.Hearing f) (hrun : d.regs.run = true) (hsetup : d.NoSetup)
    (ha : d.Ends f .a ca qa na) (hb : d.Ends f .b cb qb nb) :
    goBoundary [.a, .b] f false d.retimed
      = (d.bothStepped ca cb qa qb na nb).started d.clock := by
  have hlen : (d.delivery.holding ++ qa.toList).length < 47 := by rw [hcalm.holding]; cases qa <;> simp
  have hsteps := (runSteps_a hcalm hq ha [.b]).trans (runSteps_ends (s := d) (rest := []) rfl rfl rfl rfl rfl
    (fun hf => ⟨(hq.unlent hcalm hf).keep rfl rfl rfl rfl, hlen⟩) hb)
  rw [goBoundary, hsteps]
  simp only [runSteps, if_true]
  rw [closeBoundary_run f (by exact hrun)]
  exact startFrame_noSetup (by exact hsetup)

/-- A boundary that waits ends its event there: no arrival is taken, and the Link Port is settled. -/
theorem frameExpiry_waits {e : Device} {job : SolverJob} {todo : List Channel} (he : d.scan.engine = .running f)
    (hp : f.period ≤ d.scan.elapsed) (hs : e.Settled)
    (h : runSteps [.a, .b] f false d.retimed = (e.waitsFor f job todo, false)) :
    frameExpiry d = e.waitsFor f job todo := by
  rw [frameExpiry_due he hp, goBoundary, h]
  simp only [Bool.false_eq_true, if_false]
  rw [afterBoundary_within (b := { frame := f, realign := false, job := job, todo := todo }) rfl]
  exact settleLink_settled (hs.keep rfl rfl rfl rfl)

end

/-- Settles O16. -/
theorem frameBoundaryStartsNextFrame : Obligations.FrameBoundaryStartsNextFrame := by
  intro s f he
  have hexec : ∀ {d}, frameExpiry s.dev = d → Sys2Proof.Machine.exec .frameBoundary s = .next { s with dev := d } := by
    rintro d rfl; rfl
  refine ⟨fun hp => hexec (frameExpiry_early he hp), ?_⟩
  intro hp hcalm hsetup harr hrun hq on one waits
  refine ⟨?ends, ?waits⟩
  case ends =>
    intro ca qa na cb qb nb ha hb
    let d := s.dev.bothStepped ca cb qa qb na nb
    have hd : frameExpiry s.dev = d.started s.dev.clock := by
      rw [frameExpiry_due he hp, goBoundary_ends hcalm hq hrun hsetup ha hb, 
        afterBoundary_started _ (by exact harr)]
      refine settleLink_settled (hcalm.settled_of ?_ rfl rfl rfl)
      rcases hq with hq | hq
      · left
        show s.dev.delivery.holding ++ qa.toList ++ qb.toList = []
        simp [hcalm.holding, ha.unheard_none hq.1, hb.unheard_none hq.2]
      · exact .inr hq.2
    refine ⟨_, d.nextFrame s.dev.clock, hexec hd, rfl, ?part, rfl, ?slipped, ?period, ?lead, ?lag, ?channels⟩
    case part =>
      have hboth := Device.bothStepped_eq (ca := ca) (cb := cb) (qa := qa) (qb := qb) (na := na) (nb := nb) hcalm.holding
      show (s.dev.bothStepped ca cb qa qb na nb).started s.dev.clock = _
      rw [hboth]; rfl
    case slipped => exact Option.isSome_iff_ne_none
    case period => exact fun h => congrArg (framePeriod s.dev.scan.rate) h
    case lead => exact fun h => congrArg (framePeriod s.dev.scan.rate) h
    case lag => exact fun h => congrArg (framePeriod s.dev.scan.rate) h
    case channels =>
      intro ch c hca hcb
      have hctx : d.ctx ch = c := by
        cases ch
        · exact (hca rfl).symm
        · exact (hcb rfl).symm
      subst hctx
      refine ⟨fun hoff => ⟨Device.nextFrame_disabled _ hoff, Device.started_disabled _ hoff⟩,
        fun _ hbusy => Device.started_busy _ hbusy, fun hon hidle => ?_, fun hon hs => Device.nextFrame_search _ hon hs,
        fun hon ht => ?_⟩
      · exact congrArg Context.state (Device.started_idle (d := d) s.dev.clock hon hidle)
      · obtain ⟨w, hw, htip, hring, hx, hy, hrx, hry⟩ := Device.nextFrame_tracked (d := d) s.dev.clock hon ht
        refine ⟨w, hw, htip, hring, ?_⟩
        rw [hx, hy, hrx, hry]
        exact ⟨rfl, rfl, rfl, rfl, rfl, rfl, rfl, rfl⟩
  case waits =>
    intro hgrant hexecw hscrub
    have hwaits : ∀ {e : Device} {job : SolverJob} {todo : List Channel}, job.got = [] →
        frameExpiry s.dev = e.retimed.waitsFor f job todo →
        Sys2Proof.Machine.exec .frameBoundary s = .next (waits e job todo) := by
      intro e job todo hgot h
      refine (hexec h).trans ?_
      simp only [Device.waitsFor, SolverJob.node_first _ hgot]
      rfl
    have hheard : ∀ {ch r}, f.results ch = some r → s.dev.trace = none ∧ s.dev.delivery.captures = [] := by
      intro ch r hr
      refine hq.resolve_left fun hn => ?_
      cases ch
      · exact nomatch hn.1.symm.trans hr
      · exact nomatch hn.2.symm.trans hr
    refine ⟨fun r c1 c job hr hw => ?waitsA, fun ca qa na r c1 c job ha hr hw => ?waitsB⟩
    case waitsA =>
      have hw' : s.dev.retimed.Waits .a r c1 c job := hw.of_eq rfl rfl rfl rfl
      refine hwaits hw.got (frameExpiry_waits he hp
        (hcalm.settled_of (.inr (hheard hr).2) rfl rfl rfl) ?_)
      rw [runSteps_waits [.b] hr hw' hgrant hexecw hscrub]
      rfl
    case waitsB =>
      have hw' : (s.dev.retimed.stepped .a ca qa na).Waits .b r c1 c job := hw.of_eq rfl rfl rfl rfl
      refine hwaits hw.got (frameExpiry_waits he hp
        (hcalm.settled_of (.inr (hheard hr).2) rfl rfl rfl) ?_)
      rw [runSteps_a hcalm hq ha, runSteps_waits [] hr hw' hgrant hexecw hscrub]
      simp only [Device.stepped, PerChannel.bump_if, hcalm.holding, List.nil_append]
      rfl

end Sys2Proof.Machine
end

section
/-!
PROOFS. Channels going IDLE and a SCAN_SETUP's settings (R12 to R14, R22), where the link has nothing to do.
-/
namespace Sys2Proof.Machine

open Sys2Proof

/-! ### Channels going IDLE (R22, R153) -/

/-- A context that goes to IDLE, if it is not IDLE already. -/
def Context.rested (c : Context) (defaultRev : BitVec 8) : Context :=
  if c.state = .idle then c else c.forget .idle defaultRev

theorem Context.rested_of_idle {c : Context} (h : c.state = .idle) (rev : BitVec 8) : c.rested rev = c := if_pos h

@[simp] theorem Context.rested_state (c : Context) (rev : BitVec 8) : (c.rested rev).state = .idle := by
  unfold Context.rested; split
  · assumption
  · rfl

@[simp] theorem Context.rested_stroke (c : Context) (rev : BitVec 8) : (c.rested rev).stroke = c.stroke := by
  unfold Context.rested; split <;> rfl

@[simp] theorem Context.rested_seq (c : Context) (rev : BitVec 8) : (c.rested rev).seq = c.seq := by
  unfold Context.rested; split <;> rfl

@[simp] theorem Context.rested_gap (c : Context) (rev : BitVec 8) : (c.rested rev).gap = c.gap := by
  unfold Context.rested; split <;> rfl

variable {d : Device} {ch : Channel}

/-- An IDLE channel stays IDLE. -/
theorem toIdle_idle (h : (d.ctx ch).state = .idle) : toIdle ch d = d := if_pos h

/-- With no trace held, a channel goes to IDLE and the Link Port has nothing to settle. -/
theorem toIdle_settled (h : d.Settled) (ht : d.trace = none) :
    toIdle ch d = d.setCtx ch ((d.ctx ch).rested d.profiles.defaultRev) := by
  by_cases hi : (d.ctx ch).state = .idle
  · rw [toIdle_idle hi, Context.rested_of_idle hi, Device.setCtx_ctx]
  · have hoff : ∀ c, settleLink (traceChannelOff ch (d.setCtx ch c)) = d.setCtx ch c := fun c => by
      have hn : traceChannelOff ch (d.setCtx ch c) = d.setCtx ch c := by simp [traceChannelOff, ht]
      rw [hn]
      exact settleLink_settled (h.keep rfl rfl rfl rfl)
    rw [toIdle, if_neg hi, hoff, Context.rested, if_neg hi]

/-- A channel that is not tracked produces no PROX_OUT (R12, R14). -/
theorem leaveTracking_untracked (h : (d.ctx ch).state.tracked = false) (tag : Micros) (slip : Bool) :
    leaveTracking ch tag slip d = d := by
  simp [leaveTracking, h]

/-! ### PROX_OUT (R28) -/

/-- A PROX_OUT as it is held, its channel's gap applied. -/
def Context.proxOutHeld (c : Context) (ch : Channel) (unlisted : Bool) (tag : Micros) (slip : Bool) : Record :=
  { proxOutRecord ch c unlisted tag slip with
    flags := { (proxOutRecord ch c unlisted tag slip).flags with gap := c.gap } }

theorem Context.proxOut_gap (c : Context) (ch : Channel) (unlisted : Bool) (tag : Micros) (slip : Bool) :
    (if c.gap then (proxOutRecord ch c unlisted tag slip).withGap else proxOutRecord ch c unlisted tag slip)
      = c.proxOutHeld ch unlisted tag slip := by
  cases hg : c.gap <;> rw [Context.proxOutHeld, hg] <;> rfl

/-- A stroke is open in CONTACT, and in COAST come from CONTACT (R12, R28). -/
theorem Context.strokeOpen_iff (c : Context) : c.strokeOpen = true ↔ c.fromContact := by
  simp [Context.strokeOpen, Context.fromContact]

/-- The part with a channel's PROX_OUT held: the record counts, the sequence number rises, and no gap is pending. -/
def Device.proxedOut (d : Device) (ch : Channel) (tag : Micros) (slip : Bool) : Device :=
  d.stepped ch { d.ctx ch with seq := (d.ctx ch).seq + 1, hoverCount := 0, gap := false }
    (some ((d.ctx ch).proxOutHeld ch (d.codeUnlisted ch) tag slip)) 0

/-- With no capture open a channel that leaves tracking has its PROX_OUT held. -/
theorem produceProxOut_unlent (h : d.Unlent) (hl : d.delivery.holding.length < 47) (tag : Micros) (slip : Bool) :
    produceProxOut ch tag slip d = d.proxedOut ch tag slip := by
  rw [Device.proxedOut, ← Context.proxOut_gap]
  exact produce_unlent (r := proxOutRecord ch (d.ctx ch) (d.codeUnlisted ch) tag slip) h hl

/-! ### Channels that a SCAN_SETUP disables (R14) -/

/-- A SCAN_SETUP disables the channel. -/
def Device.disables (d : Device) (ch : Channel) (want : Bool) : Prop := d.scan.enables.get ch = true ∧ want = false

/-- A channel whose enable does not fall stays as it is. -/
theorem disableChannel_kept {want : Bool} (h : ¬d.disables ch want) (tag : Micros) : disableChannel ch want tag d = d := by
  rw [disableChannel, if_pos]
  cases want <;> simp_all [Device.disables]

/-- A channel that is disabled leaves tracking and goes to IDLE (R14). -/
theorem disableChannel_falls {want : Bool} (h : d.disables ch want) (tag : Micros) :
    disableChannel ch want tag d = toIdle ch (leaveTracking ch tag d.scan.slip.isSome d) := by
  rw [disableChannel, if_neg]
  simp [h.1, h.2]

/-- A channel that is not tracked goes to IDLE if it is disabled, without a record. -/
theorem disableChannel_untracked (h : d.Settled) (ht : d.trace = none) (want : Bool) (tag : Micros)
    (hu : d.disables ch want → (d.ctx ch).state.tracked = false) :
    ∃ c, disableChannel ch want tag d = d.setCtx ch c ∧ (d.disables ch want → c.state = .idle) := by
  by_cases hd : d.disables ch want
  · refine ⟨(d.ctx ch).rested d.profiles.defaultRev, ?_, fun _ => Context.rested_state _ _⟩
    rw [disableChannel_falls hd, leaveTracking_untracked (hu hd), toIdle_settled h ht]
  · exact ⟨d.ctx ch, by rw [disableChannel_kept hd, Device.setCtx_ctx], fun h => absurd h hd⟩

/-- An IDLE channel stays as it is (R14). -/
theorem disableChannel_idle (h : (d.ctx ch).state = .idle) (want : Bool) (tag : Micros) :
    disableChannel ch want tag d = d := by
  by_cases hd : d.disables ch want
  · rw [disableChannel_falls hd, leaveTracking_untracked (by rw [h]; rfl), toIdle_idle h]
  · exact disableChannel_kept hd tag

/-! ### The settings (R13, R14) -/

/-- The three frame rate codes (R10). -/
theorem parseRate_eq (c : Byte) : parseRate c = [Rate.fps240, .fps360, .fps480][c.toNat]? := by
  unfold parseRate
  generalize c.toNat = n
  match n with
  | 0 => rfl
  | 1 => rfl
  | 2 => rfl
  | n + 3 => rfl

/-- The detail of an applied SCAN_SETUP (R3). -/
theorem Board.setupDetail_eq (b : Board) (p : ScanSetupParams) :
    b.setupDetail p = if p.enables.getLsbD 1 = true ∧ b.bFitted = false then .notFitted else .none := by
  simp [Board.setupDetail]

/-- The enables a SCAN_SETUP sets (R3, R13). -/
def Board.enablesOf (b : Board) (p : ScanSetupParams) : PerChannel Bool :=
  { a := p.enables.getLsbD 0, b := b.enableB p }

/-- The part under a SCAN_SETUP's settings. -/
def Device.withSettings (d : Device) (p : ScanSetupParams) (rate : Rate) : Device :=
  { d with scan := { d.scan with rate := rate, enables := d.board.enablesOf p, divisor := divisorApplied p.divisor } }

/-- The part whose rate is about to become this one: a change at a frame start frees the tracker (R14). -/
def Device.retuned (d : Device) (rate : Rate) : Device := if rate = d.scan.rate then d else trackerFree d

/-- Settings applied while the engine is stopped, both channels IDLE. -/
theorem applySettings_idle {p : ScanSetupParams} {rate : Rate} (hr : parseRate p.rate = some rate) (tag : Micros)
    (h : ∀ ch, (d.ctx ch).state = .idle) : applySettings p tag false d = d.withSettings p rate := by
  simp only [applySettings, hr, Bool.false_and, Bool.false_eq_true, if_false, disableChannel_idle (h .a),
    disableChannel_idle (h .b)]
  rfl

/-- Settings applied at a frame start. -/
theorem applySettings_running {p : ScanSetupParams} {rate : Rate} (hr : parseRate p.rate = some rate) (tag : Micros)
    {d' : Device} (h : disableChannel .b (d.board.enableB p) tag
      (disableChannel .a (p.enables.getLsbD 0) tag (d.retuned rate)) = d') (hb : d'.board = d.board) :
    applySettings p tag true d = d'.withSettings p rate := by
  have hretune : (if rate != d.scan.rate then trackerFree d else d) = d.retuned rate := by
    unfold Device.retuned; split <;> simp_all
  simp only [applySettings, hr, Bool.true_and, Option.getD_some, hretune, h, Device.withSettings, Board.enablesOf, hb]

/-- The part once a SCAN_SETUP's post has completed, no other write in the buffer: its result and DONE stand there (R13,
R138). -/
def Device.setupDone (d : Device) (slot : Fin 32) (p : ScanSetupParams) (tag : Micros) : Device :=
  (clearMark slot d).wrote (d.link.buffer ++
    [resultWrite (d.markOf slot) .ok (d.board.setupDetail p)
      (scanFields d.scan.enables.a d.scan.enables.b d.scan.divisor tag), doneWrite (d.markOf slot)])

/-- A SCAN_SETUP is applied and its post completes (R13). -/
theorem applySetup_done {d' : Device} {p : ScanSetupParams} {tag : Micros} {running : Bool}
    (h : applySettings p tag running d = d') (hn : d'.NoProducer) (hc : d'.link.canIssue = true)
    (hb : d'.link.buffer.length ≤ 2) (slot : Fin 32) :
    applySetup slot p tag running d = d'.setupDone slot p tag := by
  rw [applySetup, h]
  exact settleLink_completeSlot hn hc hb slot _ _ _

/-- A SCAN_SETUP that waits is the one applied (R13). -/
theorem applyWaiting_setup {slot : Fin 32} {p : ScanSetupParams}
    (h : d.exec = some { slot := slot, work := .scanSetup p }) (tag : Micros) (running : Bool) :
    applyWaiting tag running d = applySetup slot p tag running { d with exec := none } := by
  unfold applyWaiting
  rw [h]

end Sys2Proof.Machine
end

section
/-!
PROOFS. FRAME_BOUNDARY with RUN 0 (R12, R13, R28): the stop, the PROX_OUT of a tracked channel while HALTED, and a SCAN_SETUP
applied at the stop.
-/
namespace Sys2Proof.Machine

open Sys2Proof

variable {d : Device} {f : Frame}

/-! ### The stop -/

/-- The part with its engine stopped and both channels IDLE (R12). -/
def Device.stopped (d : Device) : Device :=
  { d with
    chans := { a := (d.ctx .a).rested d.profiles.defaultRev, b := (d.ctx .b).rested d.profiles.defaultRev }
    scan := { d.scan with engine := .stopped, elapsed := 0, tracker := .free, slip := none, lossElapsed := 0 } }

theorem Device.ctx_stopped (d : Device) (ch : Channel) :
    d.stopped.ctx ch = (d.ctx ch).rested d.profiles.defaultRev := by cases ch <;> rfl

/-- With no channel tracked and the Link Port settled, the engine stops without a record. -/
theorem stopEngine_untracked (h : d.Settled) (ht : d.trace = none) (hu : ∀ ch, (d.ctx ch).state.tracked = false) :
    stopEngine f d = applyWaiting d.clock false d.stopped := by
  have ha := toIdle_settled (ch := .a) h ht
  have hb := toIdle_settled (ch := .b) (d := d.setCtx .a ((d.ctx .a).rested d.profiles.defaultRev))
    (h.keep rfl rfl rfl rfl) ht
  simp only [stopEngine, leaveTracking_untracked (hu .a), leaveTracking_untracked (hu .b), ha, hb]
  rfl

/-- A frame without results that ends with RUN 0 stops the engine. -/
theorem frameExpiry_stops {d' : Device} (he : d.scan.engine = .running f) (hp : f.period ≤ d.scan.elapsed)
    (hun : f.Unheard) (hrun : d.regs.run = false) (h : stopEngine f d.frameEnded = d')
    (hstop : d'.scan.engine = .stopped) (harr : d'.scan.arrivals = []) : frameExpiry d = settleLink d' := by
  have hclose : closeBoundary f false d.retimed = d' :=
    (closeBoundary_stop (d := d.retimed) f hrun).trans h
  rw [frameExpiry_due he hp, goBoundary_unheard hun, hclose,
    afterBoundary_none (fun b hb => nomatch hstop.symm.trans hb) harr]

/-! ### SCAN_SETUP at the stop -/

/-- An idle Executor brings no producer. -/
theorem Device.NoProducer.execIdle (h : d.NoProducer) : Device.NoProducer { d with exec := none } :=
  ⟨h.drain, h.slotQueue, h.staging, rfl⟩

/-- Once a SCAN_SETUP's post has completed, the Link Port is settled. -/
theorem Device.NoProducer.setupDone_settled (h : d.NoProducer) (slot : Fin 32) (p : ScanSetupParams) (tag : Micros) :
    (d.setupDone slot p tag).Settled :=
  ⟨h.keep rfl rfl rfl rfl, .inr rfl⟩

/-! ### A halted part: the link's own moves -/

/-- Only the link, the Post Intake's marks and EVENT have moved, and the part is HALTED as before. -/
def Device.LinkOnly (d d' : Device) : Prop :=
  ∃ l i r, d' = { d with link := l, intake := i, regs := r } ∧ l.halted = d.link.halted

theorem Device.LinkOnly.refl (d : Device) : d.LinkOnly d := ⟨d.link, d.intake, d.regs, rfl, rfl⟩

theorem Device.LinkOnly.trans {d1 d2 d3 : Device} (h : d1.LinkOnly d2) (h' : d2.LinkOnly d3) : d1.LinkOnly d3 := by
  obtain ⟨l, i, r, rfl, hl⟩ := h
  obtain ⟨l', i', r', rfl, hl'⟩ := h'
  exact ⟨l', i', r', rfl, hl'.trans hl⟩

theorem Device.LinkOnly.halted {d d' : Device} (h : d.LinkOnly d') : d'.link.halted = d.link.halted := by
  obtain ⟨_, _, _, rfl, hl⟩ := h; exact hl

theorem Device.LinkOnly.trace {d d' : Device} (h : d.LinkOnly d') : d'.trace = d.trace := by
  obtain ⟨_, _, _, rfl, -⟩ := h; rfl

theorem Device.LinkOnly.exec {d d' : Device} (h : d.LinkOnly d') : d'.exec = d.exec := by
  obtain ⟨_, _, _, rfl, -⟩ := h; rfl

theorem setCause_linkOnly (c : Cause) (d : Device) : d.LinkOnly (setCause c d) := by
  obtain ⟨sent, msg, h⟩ := testInterrupt_frame d.regs.condition
    { d with regs := { d.regs with event := d.regs.event ||| c.bits, mask := d.regs.mask } }
  exact ⟨_, _, _, h, rfl⟩

theorem enterSlotWrite_linkOnly (w : HostWrite) (rest : List HostWrite) (d : Device) :
    d.LinkOnly (enterSlotWrite w rest d) := by
  unfold enterSlotWrite
  simp only
  split <;> exact ⟨_, _, _, rfl, rfl⟩

/-- With no trace and an idle Executor, an entry is granted to a slot write alone. -/
theorem grantOne_halted {d d' : Device} (ht : d.trace = none) (he : d.exec = none) (h : grantOne d = some d') :
    d.LinkOnly d' := by
  unfold grantOne grantBelowDrain at h
  split at h
  · split at h
    · cases h; exact enterSlotWrite_linkOnly _ _ d
    · simp [ht, bulkGrant, he] at h
  · cases h

/-- While HALTED, with no trace and an idle Executor, slot writes alone enter the buffer. -/
theorem grantEntries_halted (n : Nat) : ∀ {d : Device}, d.link.halted = true → d.trace = none → d.exec = none →
    d.LinkOnly (grantEntries n d) := by
  induction n with
  | zero => exact fun _ _ _ => .refl _
  | succ n ih =>
    intro d hh ht he
    have hd : offerDrain d = d := by simp [offerDrain, drainWalk, hh]
    unfold grantEntries
    rw [hd]
    split
    · next d' hg =>
      have hw := grantOne_halted ht he hg
      exact hw.trans (ih (hw.halted.trans hh) (hw.trace.trans ht) (hw.exec.trans he))
    · exact .refl _

/-- While HALTED, with no trace and an idle Executor, the settling of the Link Port moves the link alone. -/
theorem settleLink_halted (hh : d.link.halted = true) (ht : d.trace = none) (he : d.exec = none) :
    d.LinkOnly (settleLink d) := by
  have hg : d.LinkOnly (grants d) := grantEntries_halted 4 hh ht he
  refine hg.trans ?_
  show (grants d).LinkOnly (issueHead (grants d))
  unfold issueHead
  split
  · exact .refl _
  · split
    · exact ⟨_, _, _, rfl, rfl⟩
    · simp only [hg.halted.trans hh, if_true]
      exact .refl _

/-! ### A PROX_OUT while HALTED (R28, R109) -/

/-- The part with a record held as the newest, its gap applied. -/
def Device.held (d : Device) (r : Record) : Device :=
  setGap r.ch false (setHolding (d.delivery.holding ++ [gapApplied r d]) d)

/-- While HALTED a record that finds room is held (R99, R109). -/
theorem deliver_halted (hh : d.link.halted = true) (hroom : d.delivery.holding.length < 64) (r : Record) :
    (d.held r).LinkOnly (deliver r d) := by
  have hd : deliver r d = joinHolding r d := by
    have ha : appendHolding r d = joinHolding r d := by rw [appendHolding, if_pos hroom]
    unfold deliver
    split
    · simp [hh, ha]
    · exact ha
  rw [hd, joinHolding]
  split
  · exact setCause_linkOnly _ _
  · exact .refl _

/-- While HALTED a channel that leaves tracking has its PROX_OUT held (R12, R28). -/
theorem produceProxOut_halted (hh : d.link.halted = true) (ht : d.trace = none) (he : d.exec = none)
    (hroom : d.delivery.holding.length < 64) (ch : Channel) (tag : Micros) (slip : Bool) :
    (d.proxedOut ch tag slip).LinkOnly (produceProxOut ch tag slip d) := by
  let r := proxOutRecord ch (d.ctx ch) (d.codeUnlisted ch) tag slip
  let e := countProduced ch (d.setCtx ch { d.ctx ch with seq := (d.ctx ch).seq + 1, hoverCount := 0 })
  have hheld : e.held r = d.proxedOut ch tag slip := by
    have hgap : gapApplied r e = (d.ctx ch).proxOutHeld ch (d.codeUnlisted ch) tag slip := by
      rw [← Context.proxOut_gap]
      cases ch <;> rfl
    rw [Device.held, hgap]
    show setGap ch false _ = _
    cases ch <;> simp [e, setGap, setHolding, countProduced, Device.setCtx, Device.ctx, Device.proxedOut,
      Device.stepped, PerChannel.get, PerChannel.set]
  rw [← hheld]
  have hd : (e.held r).LinkOnly (deliver r e) := deliver_halted (d := e) hh hroom r
  exact hd.trans (settleLink_halted (hd.halted.trans hh) (hd.trace.trans ht) (hd.exec.trans he))

/-- While HALTED, with no trace held, a channel that goes to IDLE moves the link besides. -/
theorem toIdle_halted (hh : d.link.halted = true) (ht : d.trace = none) (he : d.exec = none) (ch : Channel) :
    (d.setCtx ch ((d.ctx ch).rested d.profiles.defaultRev)).LinkOnly (toIdle ch d) := by
  unfold toIdle Context.rested
  split
  · rw [Device.setCtx_ctx]; exact .refl _
  · have hoff : ∀ c, traceChannelOff ch (d.setCtx ch c) = d.setCtx ch c := fun c => by simp [traceChannelOff, ht]
    rw [hoff]
    exact settleLink_halted hh ht he

/-- A channel goes to IDLE while HALTED, whatever the link's moves before. -/
theorem Device.LinkOnly.toIdle {d d' : Device} (h : d.LinkOnly d') (hh : d'.link.halted = true) (ht : d'.trace = none)
    (he : d'.exec = none) (ch : Channel) :
    (d.setCtx ch ((d.ctx ch).rested d.profiles.defaultRev)).LinkOnly (Sys2Proof.Machine.toIdle ch d') := by
  have hi := toIdle_halted hh ht he ch
  obtain ⟨l, i, r, rfl, hl⟩ := h
  refine Device.LinkOnly.trans ⟨l, i, r, ?_, hl⟩ hi
  cases ch <;> rfl

/-- While HALTED, channel A tracked, the engine stops with a PROX_OUT held (R12, R28). -/
theorem stopEngine_halted (hh : d.link.halted = true) (ht : d.trace = none) (he : d.exec = none)
    (hroom : d.delivery.holding.length < 64) (ha : (d.ctx .a).state.tracked = true)
    (hb : (d.ctx .b).state.tracked = false) :
    (d.proxedOut .a f.timeTag f.slipped).stopped.LinkOnly (stopEngine f d) := by
  have hp := produceProxOut_halted hh ht he hroom .a f.timeTag f.slipped
  have hleave : leaveTracking .b f.timeTag f.slipped (leaveTracking .a f.timeTag f.slipped d)
      = produceProxOut .a f.timeTag f.slipped d := by
    have hla : leaveTracking .a f.timeTag f.slipped d = produceProxOut .a f.timeTag f.slipped d := by
      rw [leaveTracking, if_pos ha]
    rw [hla]
    refine leaveTracking_untracked ?_ _ _
    obtain ⟨l, i, r, hq, -⟩ := hp
    rw [hq]
    exact hb
  have hia := hp.toIdle (hp.halted.trans hh) (hp.trace.trans ht) (hp.exec.trans he) .a
  have hib := hia.toIdle (hia.halted.trans hh) (hia.trace.trans ht) (hia.exec.trans he) .b
  rw [stopEngine, hleave]
  generalize toIdle .b (toIdle .a (produceProxOut .a f.timeTag f.slipped d)) = e at hib
  obtain ⟨l, i, r, rfl, hl⟩ := hib
  have hsetup : ∀ {e : Device}, e.exec = none → e.NoSetup := fun h slot q hq => nomatch h.symm.trans hq
  refine ⟨l, i, r, (applyWaiting_none (hsetup ?_) _ _).trans ?_, hl⟩
  · exact he
  · rfl

/-- A boundary that stops a HALTED part whose channel A is tracked moves the link besides. -/
theorem frameExpiry_stops_halted (he : d.scan.engine = .running f) (hp : f.period ≤ d.scan.elapsed) (hun : f.Unheard)
    (hrun : d.regs.run = false) (harr : d.scan.arrivals = []) (hh : d.link.halted = true) (ht : d.trace = none)
    (hexec : d.exec = none) (hroom : d.delivery.holding.length < 64) (ha : (d.ctx .a).state.tracked = true)
    (hb : (d.ctx .b).state.tracked = false) :
    (d.frameEnded.proxedOut .a f.timeTag f.slipped).stopped.LinkOnly (frameExpiry d) := by
  have hs : (d.frameEnded.proxedOut .a f.timeTag f.slipped).stopped.LinkOnly (stopEngine f d.frameEnded) :=
    stopEngine_halted (d := d.frameEnded) hh ht hexec hroom ha hb
  have hscan : (stopEngine f d.frameEnded).scan = (d.frameEnded.proxedOut .a f.timeTag f.slipped).stopped.scan := by
    obtain ⟨l, i, r, hq, -⟩ := hs
    rw [hq]
  rw [frameExpiry_stops he hp hun hrun rfl (by rw [hscan]; rfl) (by rw [hscan]; exact harr)]
  exact hs.trans (settleLink_halted (hs.halted.trans hh) (hs.trace.trans ht) (hs.exec.trans hexec))

/-- The part at the stop, its waiting SCAN_SETUP applied, before the post completes. -/
def Device.stoppedUnder (d : Device) (p : ScanSetupParams) (rate : Rate) : Device :=
  Device.withSettings { d.frameEnded.stopped with exec := none } p rate

/-- A boundary that stops an untracked calm part applies a SCAN_SETUP that waits, the clock in its result (R12, R13). -/
theorem frameExpiry_stops_setup {slot : Fin 32} {q : ScanSetupParams} {rate : Rate}
    (he : d.scan.engine = .running f) (hp : f.period ≤ d.scan.elapsed) (hun : f.Unheard) (hrun : d.regs.run = false)
    (harr : d.scan.arrivals = []) (hcalm : d.Calm) (ht : d.trace = none) (hu : ∀ ch, (d.ctx ch).state.tracked = false)
    (hpost : d.exec = some { slot := slot, work := .scanSetup q }) (hr : parseRate q.rate = some rate) :
    frameExpiry d = (d.stoppedUnder q rate).setupDone slot q d.clock := by
  have hnone : (d.stoppedUnder q rate).NoProducer := hcalm.noProducer.execIdle.keep rfl rfl rfl rfl
  have hidle : ∀ ch, (Device.ctx { d.frameEnded.stopped with exec := none } ch).state = .idle :=
    fun ch => (congrArg Context.state (d.frameEnded.ctx_stopped ch)).trans (Context.rested_state _ _)
  have happly : applySetup slot q d.clock false { d.frameEnded.stopped with exec := none }
      = (d.stoppedUnder q rate).setupDone slot q d.clock :=
    applySetup_done (applySettings_idle hr _ hidle) hnone hcalm.canIssue
      (show d.link.buffer.length ≤ 2 by rw [hcalm.buffer]; decide) slot
  have hstop : stopEngine f d.frameEnded = (d.stoppedUnder q rate).setupDone slot q d.clock := by
    rw [stopEngine_untracked (d := d.frameEnded) (hcalm.settled.keep rfl rfl rfl rfl) ht hu,
      applyWaiting_setup (d := d.frameEnded.stopped) hpost]
    exact happly
  rw [frameExpiry_stops he hp hun hrun hstop rfl harr, settleLink_settled (hnone.setupDone_settled slot q d.clock)]

/-- A boundary that stops an untracked calm part with no SCAN_SETUP waiting (R12). -/
theorem frameExpiry_stops_calm (he : d.scan.engine = .running f) (hp : f.period ≤ d.scan.elapsed) (hun : f.Unheard)
    (hrun : d.regs.run = false) (harr : d.scan.arrivals = []) (hcalm : d.Calm) (ht : d.trace = none)
    (hu : ∀ ch, (d.ctx ch).state.tracked = false) (hs : d.NoSetup) : frameExpiry d = d.frameEnded.stopped := by
  have hstop : stopEngine f d.frameEnded = d.frameEnded.stopped := by
    rw [stopEngine_untracked (d := d.frameEnded) (hcalm.settled.keep rfl rfl rfl rfl) ht hu]
    exact applyWaiting_none (d := d.frameEnded.stopped) hs _ _
  rw [frameExpiry_stops he hp hun hrun hstop rfl harr]
  exact settleLink_settled (d := d.frameEnded.stopped) (hcalm.settled.keep rfl rfl rfl rfl)

/-- Settles O17. -/
theorem frameBoundaryStops : Obligations.FrameBoundaryStops := by
  intro s f he hp hun harr hrun hb
  have hexec : ∀ {d}, frameExpiry s.dev = d → Sys2Proof.Machine.exec .frameBoundary s = .next { s with dev := d } := by
    rintro d rfl; rfl
  have hnone : (s.dev.ctx .a).state.tracked = false → ∀ ch, (s.dev.ctx ch).state.tracked = false := by
    rintro ha (_ | _)
    exacts [ha, hb]
  refine ⟨?setup, ?noSetup, ?halted⟩
  case setup =>
    intro slot q rate hpost hcalm ht ha hrate enA enB divisor dt fields m
    have hd := frameExpiry_stops_setup he hp hun hrun harr hcalm ht (hnone ha) hpost ((parseRate_eq _).trans hrate)
    refine ⟨_, hexec hd, rfl, ?_, fun ch => ?_⟩
    · have hbuf : (s.dev.stoppedUnder q rate).link.buffer = [] := hcalm.buffer
      simp only [Device.setupDone, hbuf, Board.setupDetail_eq, List.nil_append]
      rfl
    · exact (congrArg Context.state (s.dev.frameEnded.ctx_stopped ch)).trans (Context.rested_state _ _)
  case noSetup =>
    intro hsetup hcalm ht ha
    have hd := frameExpiry_stops_calm he hp hun hrun harr hcalm ht (hnone ha) hsetup
    refine ⟨_, hexec hd, rfl, rfl, fun ch => ?_⟩
    have hc : s.dev.frameEnded.stopped.ctx ch = (s.dev.ctx ch).rested s.dev.profiles.defaultRev :=
      s.dev.frameEnded.ctx_stopped ch
    simp [hc]
  case halted =>
    intro hh hquiet hroom ha
    obtain ⟨-, -, -, -, hidle, ht⟩ := hquiet hh
    obtain ⟨l, i, r, hd, -⟩ := frameExpiry_stops_halted he hp hun hrun harr hh ht hidle hroom ha hb
    have hctx : ∀ ch, (Device.ctx { (s.dev.frameEnded.proxedOut .a f.timeTag f.slipped).stopped with
        link := l, intake := i, regs := r } ch) = ((s.dev.frameEnded.proxedOut .a f.timeTag f.slipped).ctx ch).rested
          s.dev.profiles.defaultRev := fun ch => (s.dev.frameEnded.proxedOut .a f.timeTag f.slipped).ctx_stopped ch
    refine ⟨_, (s.dev.ctx .a).proxOutHeld .a (s.dev.codeUnlisted .a) f.timeTag f.slipped, hexec hd, rfl, rfl, rfl, rfl,
      fun ch => ?_, ?_, ?_, ?_, rfl, rfl, rfl, rfl, rfl, rfl, rfl, rfl, rfl, rfl, rfl, rfl, rfl, rfl, rfl, rfl, rfl, rfl,
      Context.strokeOpen_iff _, ?_, ?_, ?_⟩
    · rw [hctx]; exact Context.rested_state _ _
    · rw [hctx]; simp; rfl
    · rw [hctx]; simp; rfl
    · rw [hctx]; simp; rfl
    · simp [Context.proxOutHeld, proxOutRecord]
    · simp [Context.proxOutHeld, proxOutRecord]
    · simp [Context.proxOutHeld, proxOutRecord, Context.toolField]

end Sys2Proof.Machine
end

section
/-!
PROOFS. A post of the Command Executor that a sweep finds at its slot: the slot is taken, its work begins, and the sweep ends
(R133 to R136, R138).
-/
namespace Sys2Proof.Machine

open Sys2Proof

/-! ### A slot that is taken (R136) -/

/-- A slot's mark set where none was. -/
theorem setMark_clear {d : Device} {m : SlotMark} (h : d.isInFlight m.slot = false) : setMark m d = d.marked m := by
  have hf : d.intake.inFlight.filter (fun x => x.slot != m.slot) = d.intake.inFlight := by
    simpa [Device.isInFlight, List.filter_eq_self] using h
  rw [setMark, hf, Device.marked]

/-- A slot's mark set and cleared again. -/
theorem clearMark_marked {d : Device} {m : SlotMark} (h : d.isInFlight m.slot = false) :
    clearMark m.slot (d.marked m) = d := by
  have hf : d.intake.inFlight.filter (fun x => x.slot != m.slot) = d.intake.inFlight := by
    simpa [Device.isInFlight, List.filter_eq_self] using h
  simp [clearMark, Device.marked, hf]

/-- The newest mark of a slot is the slot's. -/
theorem markOf_marked (d : Device) (m : SlotMark) : (d.marked m).markOf m.slot = m := by
  simp [Device.markOf, Device.marked]

/-- The part as the work of a slot that is taken begins: the body read ended, the mark set, the TAKEN write in the buffer. -/
def Device.taking (d : Device) (m : SlotMark) : Device :=
  { (endRead d).marked m with link := { (endRead d).link with buffer := [takenWrite m] } }

/-- The Executor, idle, takes a post of its kinds that a body holds (R133, R136). -/
theorem settlePost_executor {d : Device} {p : Post} (hk : executorKind (postKind p) = true) (hi : d.exec = none)
    (m : SlotMark) : settlePost m p d = some (takeSlot m (beginPost m.slot p) d) := by
  have hroom : d.noRoom (postKind p) = false := by
    have hcapture : postKind p ≠ 1 := by intro h; rw [h] at hk; exact absurd hk (by decide)
    simpa [Device.noRoom, hi] using fun h => absurd h hcapture
  have htrace : postKind p ≠ 6 := by intro h; rw [h] at hk; exact absurd hk (by decide)
  rw [settlePost, if_neg (by simp [hroom]), if_neg (fun h => htrace h.1)]
  cases p with
  | capture q => exact absurd (show executorKind 1 = true from hk) (by decide)
  | trace q => exact absurd (show executorKind 6 = true from hk) (by decide)
  | _ => rfl

section
variable {d : Device} {slot : Fin 32} {kind : Byte}

/-- A calm part takes the slot: its work begins on Device.taking. -/
theorem takeSlot_finds (h : d.Finds slot kind) (notify : Bool) (handOn : Device → Device) :
    takeSlot (d.foundMark slot kind notify) handOn (endRead d)
      = settleLink (setRotation slot (handOn (d.taking (d.foundMark slot kind notify)))) := by
  have hn : ((endRead d).marked (d.foundMark slot kind notify)).NoProducer := h.calm.noProducer.keep rfl rfl rfl rfl
  have hb : ((endRead d).marked (d.foundMark slot kind notify)).link.buffer = [] := h.calm.buffer
  have hg : grants (handOver [takenWrite (d.foundMark slot kind notify)]
      ((endRead d).marked (d.foundMark slot kind notify))) = d.taking (d.foundMark slot kind notify) := by
    refine (grantEntries_handOver hn (by simp) (by simp [hb])).trans ?_
    simp only [List.foldl_cons, List.foldl_nil, slotWriteIn, enterSlotWrite, takenWrite, enterBuffer, hb,
      List.nil_append, Device.taking]
    rfl
  rw [takeSlot, setMark_clear (by exact h.clear), hg]
  rfl

/-- As a slot's work begins no producer waits. -/
theorem Device.Finds.taking_noProducer (h : d.Finds slot kind) (m : SlotMark) : (d.taking m).NoProducer :=
  h.calm.noProducer.keep rfl rfl rfl rfl

/-- As a slot's work begins the link can issue writes. -/
theorem Device.Finds.taking_canIssue (h : d.Finds slot kind) (m : SlotMark) : (d.taking m).link.canIssue = true :=
  h.calm.canIssue

/-- The mark of a slot whose work begins is the slot's only one: without it the marks are those of before. -/
theorem Device.Finds.taking_unmarked (h : d.Finds slot kind) (notify : Bool) :
    (d.taking (d.foundMark slot kind notify)).intake.inFlight.filter (fun x => x.slot != slot) = d.intake.inFlight :=
  congrArg (fun d => d.intake.inFlight) (clearMark_marked (m := d.foundMark slot kind notify) h.clear)

/-! ### The sweep's end (R135) -/

/-- The sweep ends where no prompt is pending. -/
theorem sweepDone_unprompted {x : Device} (hs : x.intake.sweep.isSome = true) (hp : x.intake.promptPending = false) :
    sweepDone x = setSweep none x := by
  obtain ⟨sw, hsw⟩ := Option.isSome_iff_exists.1 hs
  simp [sweepDone, hsw, endSweep, hp, setSweep]

/-- After a slot the sweep settles on it ends, in SINGLE mode or past its last slot. -/
theorem sweepGoesOn_ends {x : Device} {rest : List (Fin 32)} (hr : x.regs.batch = false ∨ rest = []) (e : Device) :
    sweepGoesOn rest e (some x) = sweepDone x := by
  show (if x.regs.batch = true then walk rest x else sweepDone x) = _
  split
  · next hb =>
    rcases hr with hr | rfl
    · exact absurd hb (by simp [hr])
    · rfl
  · rfl

/-- What a post's beginning leaves for the sweep's end: the sweep, no prompt, the mode, no read waiting, the link settled. -/
structure Device.Begun (d x : Device) : Prop where
  sweep : x.intake.sweep = d.intake.sweep
  prompt : x.intake.promptPending = d.intake.promptPending
  batch : x.regs.batch = d.regs.batch
  waiting : x.link.waiting = d.link.waiting
  settled : x.Settled

/-- A post of the Executor's kinds that a sweep finds is taken, its work begins, and the sweep ends. -/
theorem postFound_takes {p : Post} {x : Device} (h : d.Open slot (postKind p)) (notify : Bool)
    (hk : executorKind (postKind p) = true)
    (hx : settleLink (setRotation slot (beginPost slot p (d.taking (d.foundMark slot (postKind p) notify)))) = x)
    (hb : d.Begun x) : postFound slot notify p d = setSweep none x := by
  obtain ⟨rest, hr, hfound⟩ := postFound_finds notify h.finds
  have htaken := takeSlot_finds h.finds notify (beginPost slot p)
  have hsweep : x.intake.sweep.isSome = true := by
    obtain ⟨sw, -, -, hs, -⟩ := h.finds.waits
    rw [hb.sweep, hs]; rfl
  rw [hfound, settlePost_executor hk (by exact h.idle)]
  show afterRead (sweepGoesOn rest _ (some (takeSlot _ (beginPost slot p) (endRead d)))) = _
  rw [htaken, hx, sweepGoesOn_ends (by rw [hb.batch]; exact hr),
    sweepDone_unprompted hsweep (hb.prompt.trans h.finds.unprompted), afterRead,
    pumpReads_none (by exact hb.waiting.trans h.finds.calm.waiting)]
  exact settleLink_settled (d := setSweep none x) (hb.settled.keep rfl rfl rfl rfl)

/-- A post that completes as it begins leaves its three writes in the buffer and no mark (R137, R138). -/
theorem postFound_completes {p : Post} {st : Status} {dt : Detail} {fs : List Byte} (h : d.Open slot (postKind p))
    (notify : Bool) (hk : executorKind (postKind p) = true)
    (hb : beginPost slot p (d.taking (d.foundMark slot (postKind p) notify))
      = completeSlot slot st dt fs (d.taking (d.foundMark slot (postKind p) notify))) :
    postFound slot notify p d = d.swept.completedSlot (d.foundMark slot (postKind p) notify) st dt fs := by
  let m := d.foundMark slot (postKind p) notify
  let e := setRotation slot (d.taking m)
  have hn : e.NoProducer := (h.finds.taking_noProducer m).keep rfl rfl rfl rfl
  have hclear : e.intake.inFlight.filter (fun x => x.slot != slot) = d.intake.inFlight := h.finds.taking_unmarked notify
  have hmark : e.markOf slot = m := markOf_marked d m
  have hx : settleLink (setRotation slot (beginPost slot p (d.taking m)))
      = (clearMark slot e).wrote [takenWrite m, resultWrite m st dt fs, doneWrite m] := by
    have hdone := settleLink_completeSlot hn (h.finds.taking_canIssue m) (Nat.le_succ 1) slot st dt fs
    rw [hmark] at hdone
    rw [hb]
    exact hdone
  rw [postFound_takes h notify hk hx ⟨rfl, rfl, rfl, rfl, hn.keep rfl rfl rfl rfl, .inr rfl⟩]
  simp only [setSweep, clearMark, Device.wrote, hclear]
  rfl

/-- A post whose work goes on leaves its mark and its TAKEN write (R136, R141). -/
theorem postFound_goesOn {p : Post} {w : Work} (h : d.Open slot (postKind p)) (notify : Bool)
    (hk : executorKind (postKind p) = true)
    (hb : beginPost slot p (d.taking (d.foundMark slot (postKind p) notify))
      = setCurrent slot w (d.taking (d.foundMark slot (postKind p) notify)))
    (hw : bulkGrant (setCurrent slot w d) = none) :
    postFound slot notify p d
      = (setCurrent slot w d.swept).tookSlot (d.foundMark slot (postKind p) notify) := by
  let m := d.foundMark slot (postKind p) notify
  let e := setRotation slot (setCurrent slot w (d.taking m))
  have hn : e.NoProducer :=
    ⟨(h.finds.taking_noProducer m).drain, (h.finds.taking_noProducer m).slotQueue,
      (h.finds.taking_noProducer m).staging, bulkGrant_none_of_exec (d := setCurrent slot w d) (d' := e) rfl hw⟩
  have hx : settleLink (setRotation slot (beginPost slot p (d.taking m))) = e.wrote [takenWrite m] := by
    rw [hb]
    exact settleLink_issues hn (h.finds.taking_canIssue m) (List.cons_ne_nil _ _)
  have hbegun : d.Begun (e.wrote [takenWrite m]) :=
    ⟨rfl, rfl, rfl, rfl, Device.NoProducer.keep (d := e) hn rfl rfl rfl rfl, .inr rfl⟩
  rw [postFound_takes h notify hk hx hbegun]
  rfl

end

end Sys2Proof.Machine
end

section
/-!
PROOFS. SCAN_SETUP (R3, R10, R13, R14, R17): rejected, applied while the engine is stopped, or waiting and applied at a frame
start.
-/
namespace Sys2Proof.Machine

open Sys2Proof

/-! ### The post as it begins (R13) -/

section
variable {d : Device} {slot : Fin 32} {p : ScanSetupParams} {rate : Rate}

/-- The three rates have the codes 0 to 2 (R10). -/
theorem parseRate_none {c : Byte} (h : 2 < c.toNat) : parseRate c = none := by
  rw [parseRate_eq, List.getElem?_eq_none h]

/-- A SCAN_SETUP of another rate code is rejected (R13). -/
theorem beginScanSetup_rejects (h : parseRate p.rate = none) :
    beginScanSetup slot p d = completeSlot slot .rejected .range [] d := by
  rw [beginScanSetup, h]; rfl

/-- While the engine runs a SCAN_SETUP waits for a frame start (R13). -/
theorem beginScanSetup_waits (hr : parseRate p.rate = some rate) (he : d.scan.engine ≠ .stopped) :
    beginScanSetup slot p d = setCurrent slot (.scanSetup p) d := by
  rw [beginScanSetup, hr]
  exact if_neg he

/-- While the engine is stopped a SCAN_SETUP is applied at once (R13). -/
theorem beginScanSetup_applies (hr : parseRate p.rate = some rate) (he : d.scan.engine = .stopped) :
    beginScanSetup slot p d = applySetup slot p d.clock false d := by
  rw [beginScanSetup, hr]
  exact if_pos he

/-- A SCAN_SETUP found while the engine is stopped, both channels IDLE, is applied and completes, its three writes in the
buffer (R13, R138). -/
theorem postFound_setupApplies (h : d.Open slot 5) (notify : Bool) (hr : parseRate p.rate = some rate)
    (he : d.scan.engine = .stopped) (hi : ∀ ch, (d.ctx ch).state = .idle) :
    postFound slot notify (.scanSetup p) d
      = (d.swept.withSettings p rate).completedSlot (d.foundMark slot 5 notify) .ok (d.board.setupDetail p)
        (scanFields (p.enables.getLsbD 0) (d.board.enableB p) (divisorApplied p.divisor) d.clock) := by
  let m := d.foundMark slot 5 notify
  let e := (d.taking m).withSettings p rate
  have hn : e.NoProducer := (h.finds.taking_noProducer m).keep rfl rfl rfl rfl
  have hmark : e.markOf slot = m := markOf_marked d m
  have hclear : e.intake.inFlight.filter (fun x => x.slot != slot) = d.intake.inFlight := h.finds.taking_unmarked notify
  have hdone : applySetup slot p d.clock false (d.taking m) = e.setupDone slot p d.clock :=
    applySetup_done (d' := e) (applySettings_idle (d := d.taking m) hr d.clock hi) hn (h.finds.taking_canIssue m)
      (Nat.le_succ 1) slot
  have hsettled : (setRotation slot (e.setupDone slot p d.clock)).Settled :=
    (hn.setupDone_settled slot p d.clock).keep rfl rfl rfl rfl
  have hx : settleLink (setRotation slot (beginPost slot (.scanSetup p) (d.taking m)))
      = setRotation slot (e.setupDone slot p d.clock) := by
    rw [show beginPost slot (.scanSetup p) (d.taking m) = e.setupDone slot p d.clock from
      (beginScanSetup_applies (d := d.taking m) hr he).trans hdone, settleLink_settled hsettled]
  have hfound := postFound_takes (p := .scanSetup p) h notify (show executorKind 5 = true by decide) hx
    ⟨rfl, rfl, rfl, rfl, hsettled⟩
  rw [hfound, Device.setupDone, hmark]
  simp only [setSweep, setRotation, clearMark, Device.wrote, hclear]
  rfl

end

/-! ### The settings at a frame start (R14) -/

section
variable {d : Device} {f : Frame} {slot : Fin 32} {q : ScanSetupParams} {rate : Rate} {chans : PerChannel Context}
  {held : List Record} {produced : PerChannel (BitVec 32)}

/-- The part at a frame start as a SCAN_SETUP is applied: its post has left the Executor, a change of rate has freed the
tracker, and the channels stand as their disabling leaves them, with these records held and produced. -/
def Device.disabling (d : Device) (rate : Rate) (chans : PerChannel Context) (held : List Record)
    (produced : PerChannel (BitVec 32)) : Device :=
  { d with
    chans := chans
    delivery := { d.delivery with holding := held }
    counters := { d.counters with framesRun := d.counters.framesRun + 1, produced := produced }
    exec := none
    scan := { d.scan with
      elapsed := 0
      tracker := if rate ≠ d.scan.rate then .free else d.scan.tracker
      slip := if rate ≠ d.scan.rate then none else d.scan.slip
      lossElapsed := if rate ≠ d.scan.rate then 0 else d.scan.lossElapsed } }

/-- Before any channel is disabled the channels and their records stand. -/
theorem retuned_frameEnded (hh : d.delivery.holding = []) (rate : Rate) :
    Device.retuned { d.frameEnded with exec := none } rate = d.disabling rate d.chans [] d.counters.produced := by
  rw [← hh]
  by_cases hr : rate = d.scan.rate
  · have hk : Device.retuned { d.frameEnded with exec := none } rate = { d.frameEnded with exec := none } := if_pos hr
    rw [hk]; simp only [Device.disabling, ne_eq, hr, not_true, if_false]; rfl
  · have hk : Device.retuned { d.frameEnded with exec := none } rate
        = trackerFree { d.frameEnded with exec := none } := if_neg hr
    rw [hk]; simp only [Device.disabling, ne_eq, hr, not_false_eq_true, if_true]; rfl

theorem Device.Calm.disabling_noProducer (h : d.Calm) (hd : held = [] ∨ d.delivery.captures = []) :
    (d.disabling rate chans held produced).NoProducer := ⟨hd, h.slotQueue, h.staging, rfl⟩

theorem Device.Calm.disabling_settled (h : d.Calm) (hd : held = [] ∨ d.delivery.captures = []) :
    (d.disabling rate chans held produced).Settled := ⟨h.disabling_noProducer hd, .inl h.buffer⟩

/-- The part once a SCAN_SETUP has been applied at a frame start and the frame has started. -/
def Device.startedUnder (d : Device) (slot : Fin 32) (q : ScanSetupParams) (rate : Rate) (chans : PerChannel Context)
    (held : List Record) (produced : PerChannel (BitVec 32)) : Device :=
  (((d.disabling rate chans held produced).withSettings q rate).setupDone slot q d.clock).started d.clock

/-- A frame boundary applies a SCAN_SETUP that waits, and the next frame runs under it (R13, R14). -/
theorem frameExpiry_setup (he : d.scan.engine = .running f) (hp : f.period ≤ d.scan.elapsed) (hun : f.Unheard)
    (hrun : d.regs.run = true) (harr : d.scan.arrivals = []) (hcalm : d.Calm)
    (hpost : d.exec = some { slot := slot, work := .scanSetup q }) (hr : parseRate q.rate = some rate)
    (hdrain : held = [] ∨ d.delivery.captures = [])
    (h : disableChannel .b (d.board.enableB q) d.clock (disableChannel .a (q.enables.getLsbD 0) d.clock
      (d.disabling rate d.chans [] d.counters.produced)) = d.disabling rate chans held produced) :
    frameExpiry d = d.startedUnder slot q rate chans held produced := by
  let x := (d.disabling rate chans held produced).withSettings q rate
  have hn : x.NoProducer :=
    (hcalm.disabling_noProducer (rate := rate) (chans := chans) (produced := produced) hdrain).keep rfl rfl rfl rfl
  have hsettings : applySettings q d.clock true { d.frameEnded with exec := none } = x :=
    applySettings_running (d := { d.frameEnded with exec := none }) (d' := d.disabling rate chans held produced) hr d.clock
      (by rw [retuned_frameEnded hcalm.holding]; exact h) rfl
  have hdone : applySetup slot q d.clock true { d.frameEnded with exec := none } = x.setupDone slot q d.clock :=
    applySetup_done hsettings hn hcalm.canIssue (show d.link.buffer.length ≤ 2 by rw [hcalm.buffer]; decide) slot
  have hstart : startFrame d.frameEnded = d.startedUnder slot q rate chans held produced := by
    rw [startFrame_eq, applyWaiting_setup (d := d.frameEnded) hpost]
    exact congrArg (fun e : Device => e.started d.clock) hdone
  have hclose : closeBoundary f false d.retimed = d.startedUnder slot q rate chans held produced :=
    (closeBoundary_run (d := d.retimed) f hrun).trans hstart
  have hafter : afterBoundary (d.startedUnder slot q rate chans held produced)
      = d.startedUnder slot q rate chans held produced :=
    afterBoundary_started (d := x.setupDone slot q d.clock) d.clock harr
  rw [frameExpiry_due he hp, goBoundary_unheard hun, hclose, hafter]
  exact settleLink_settled (d := d.startedUnder slot q rate chans held produced)
    ((hn.setupDone_settled slot q d.clock).keep rfl rfl rfl rfl)

/-- Channels that are not tracked as they are disabled go to IDLE without a record. -/
theorem disabling_untracked (hcalm : d.Calm) (ht : d.trace = none) (hd : held = [] ∨ d.delivery.captures = []) (ch : Channel)
    (want : Bool) (tag : Micros) (hu : d.disables ch want → (chans.get ch).state.tracked = false) :
    ∃ c, disableChannel ch want tag (d.disabling rate chans held produced)
        = d.disabling rate (chans.set ch c) held produced ∧ (d.disables ch want → c.state = .idle) :=
  disableChannel_untracked (d := d.disabling rate chans held produced) (hcalm.disabling_settled hd) ht want tag hu

/-- A PROX_OUT held as its channel is disabled. -/
theorem disabling_proxedOut (ch : Channel) (c : Context) (tag : Micros) (slip : Bool) :
    ((d.disabling rate d.chans [] d.counters.produced).proxedOut ch tag slip).setCtx ch c
      = d.disabling rate (d.chans.set ch c) [(d.ctx ch).proxOutHeld ch (d.codeUnlisted ch) tag slip]
          (d.counters.produced.bump ch) := by
  simp only [Device.proxedOut, Device.stepped, Device.disabling, Option.isSome_some, if_true]
  rw [show d.counters.identFailures + 0 = d.counters.identFailures from BitVec.add_zero _]
  cases ch <;> rfl

/-- With no capture open, a tracked channel that is disabled goes to IDLE after its PROX_OUT (R14, R28). -/
theorem disabling_tracked (hcalm : d.Calm) (ht : d.trace = none) (hc : d.delivery.captures = []) {ch : Channel}
    {want : Bool} (tag : Micros) (hdis : d.disables ch want) (hk : (d.ctx ch).state.tracked = true) :
    ∃ c, disableChannel ch want tag (d.disabling rate d.chans [] d.counters.produced)
        = d.disabling rate (d.chans.set ch c)
          [(d.ctx ch).proxOutHeld ch (d.codeUnlisted ch) tag (if rate ≠ d.scan.rate then none else d.scan.slip).isSome]
          (d.counters.produced.bump ch)
      ∧ c.state = .idle ∧ c.seq = (d.ctx ch).seq + 1 ∧ c.stroke = (d.ctx ch).stroke := by
  let e := d.disabling rate d.chans [] d.counters.produced
  let left : Context := { d.ctx ch with seq := (d.ctx ch).seq + 1, hoverCount := 0, gap := false }
  have hun : e.Unlent := ⟨hc, ht, hcalm.buffer, hcalm.slotQueue, rfl⟩
  have hleave : leaveTracking ch tag e.scan.slip.isSome e = e.proxedOut ch tag e.scan.slip.isSome := by
    rw [leaveTracking, if_pos (by exact hk)]
    exact produceProxOut_unlent hun (show 0 < 47 by decide) tag _
  have hsettled : (e.proxedOut ch tag e.scan.slip.isSome).Settled :=
    ⟨⟨.inr hc, hcalm.slotQueue, hcalm.staging, rfl⟩, .inl hcalm.buffer⟩
  have hctx : (e.proxedOut ch tag e.scan.slip.isSome).ctx ch = left := by cases ch <;> rfl
  refine ⟨left.rested d.profiles.defaultRev, (disableChannel_falls (d := e) hdis tag).trans ?_, Context.rested_state _ _,
    ?_, ?_⟩
  · rw [hleave, toIdle_settled hsettled ht, hctx]
    exact disabling_proxedOut ch _ tag _
  · exact Context.rested_seq _ _
  · exact Context.rested_stroke _ _

/-- A channel that a SCAN_SETUP leaves not enabled stands in the frame as its disabling left it. -/
theorem Device.startedUnder_off {ch : Channel} (h : (d.board.enablesOf q).get ch = false) :
    (d.startedUnder slot q rate chans held produced).ctx ch = chans.get ch :=
  Device.started_disabled (d := ((d.disabling rate chans held produced).withSettings q rate).setupDone slot q d.clock)
    d.clock h

/-- The frame a SCAN_SETUP's settings start. -/
def Device.frameUnder (d : Device) (slot : Fin 32) (q : ScanSetupParams) (rate : Rate) (chans : PerChannel Context)
    (held : List Record) (produced : PerChannel (BitVec 32)) : Frame :=
  (((d.disabling rate chans held produced).withSettings q rate).setupDone slot q d.clock).nextFrame d.clock

/-- The channels and windows of a frame that runs under new settings (R4, R6, R14). -/
theorem Device.frameUnder_channels
    (hidle : ∀ ch, d.disables ch ((d.board.enablesOf q).get ch) → (chans.get ch).state = .idle) :
    (∀ ch, (d.board.enablesOf q).get ch = false →
      (d.frameUnder slot q rate chans held produced).wins.get ch = none
        ∧ (d.scan.enables.get ch = true → ((d.startedUnder slot q rate chans held produced).ctx ch).state = .idle))
    ∧ ∀ ch, (d.board.enablesOf q).get ch = true →
      (d.frameUnder slot q rate chans held produced).wins.get ch ≠ none
        ∧ ((d.startedUnder slot q rate chans held produced).ctx ch).state ≠ .idle := by
  let x := ((d.disabling rate chans held produced).withSettings q rate).setupDone slot q d.clock
  refine ⟨fun ch hoff => ⟨Device.nextFrame_disabled (d := x) d.clock hoff, fun hwas => ?_⟩,
    fun ch hon => ⟨?_, Device.started_enabled (d := x) d.clock hon⟩⟩
  · rw [Device.startedUnder_off hoff]
    exact hidle ch ⟨hwas, hoff⟩
  · exact ne_of_eq_of_ne (Device.nextFrame_enabled (d := x) d.clock hon) (Option.some_ne_none _)

end

/-- Settles O35. -/
theorem scanSetupAppliesOrWaits : Obligations.ScanSetupAppliesOrWaits := by
  refine ⟨fun s slot notify p hopen => ?post, fun s f slot q rate he hp hun hcalm ht harr hrun hpost hrate => ?frame⟩
  case post =>
    intro m
    have hexec : ∀ {d}, postFound slot notify (.scanSetup p) s.dev = d →
        Sys2Proof.Machine.exec (.scanSetup slot notify p) s = .next { s with dev := d } := by rintro d rfl; rfl
    have hkind : executorKind (postKind (.scanSetup p)) = true := show executorKind 5 = true by decide
    refine ⟨fun hcode => ?rejected, fun rate hrate => ⟨fun hrun => ?waits, fun hstop hidle => ?applied⟩⟩
    case rejected =>
      exact hexec (postFound_completes (p := .scanSetup p) hopen notify hkind
        (beginScanSetup_rejects (parseRate_none hcode)))
    case waits =>
      exact hexec (postFound_goesOn (p := .scanSetup p) hopen notify hkind
        (beginScanSetup_waits (d := s.dev.taking m) ((parseRate_eq _).trans hrate) hrun) rfl)
    case applied =>
      intro enA enB divisor applied dt fields
      refine (hexec (postFound_setupApplies hopen notify ((parseRate_eq _).trans hrate) hstop hidle)).trans ?_
      rw [Board.setupDetail_eq]
      rfl
  case frame =>
    intro on was divisor changed slip dt fields m applies goes
    have hexec : ∀ {d}, frameExpiry s.dev = d → Sys2Proof.Machine.exec .frameBoundary s = .next { s with dev := d } := by
      rintro d rfl; rfl
    have happlies : ∀ {chans held produced}, (held = [] ∨ s.dev.delivery.captures = []) →
        (∀ ch, s.dev.disables ch (on.get ch) → (PerChannel.get chans ch).state = .idle) →
        disableChannel .b on.b s.dev.clock (disableChannel .a on.a s.dev.clock
          (s.dev.disabling rate s.dev.chans [] s.dev.counters.produced)) = s.dev.disabling rate chans held produced →
        applies { s with dev := s.dev.startedUnder slot q rate chans held produced } held produced := by
      intro chans held produced hdrain hidle h
      obtain ⟨hoff, hon⟩ :=
        Device.frameUnder_channels (slot := slot) (rate := rate) (held := held) (produced := produced) hidle
      refine ⟨s.dev.frameUnder slot q rate chans held produced,
        hexec (frameExpiry_setup he hp hun hrun harr hcalm hpost ((parseRate_eq _).trans hrate) hdrain h), rfl, ?part, rfl,
        Option.isSome_iff_ne_none, fun hslip => ?period, hoff, hon⟩
      case part =>
        have hbuf : ((s.dev.disabling rate chans held produced).withSettings q rate).link.buffer = [] := hcalm.buffer
        simp only [Device.startedUnder, Device.setupDone, hbuf, Board.setupDetail_eq, List.nil_append]
        rfl
      case period =>
        exact congrArg (framePeriod rate) hslip
    have huntracked : ∀ {ch}, ¬goes ch → s.dev.disables ch (on.get ch) → (s.dev.ctx ch).state.tracked = false :=
      fun hg hd => Bool.eq_false_iff.2 fun ht => hg ⟨hd.1, hd.2, ht⟩
    refine ⟨fun hga hgb => ?none, fun hga hgb hcap => ?proxOut⟩
    case none =>
      obtain ⟨ca, ha, hia⟩ := disabling_untracked (rate := rate) (produced := s.dev.counters.produced) hcalm ht (.inl rfl)
        .a on.a s.dev.clock (huntracked hga)
      obtain ⟨cb, hb, hib⟩ := disabling_untracked (rate := rate) (produced := s.dev.counters.produced)
        (chans := s.dev.chans.set .a ca) hcalm ht (.inl rfl) .b on.b s.dev.clock (huntracked hgb)
      refine ⟨_, happlies (.inl rfl) (fun ch => ?_) ((congrArg _ ha).trans hb)⟩
      cases ch
      · exact hia
      · exact hib
    case proxOut =>
      intro c counted
      obtain ⟨hwas, hoff, hk⟩ := hga
      obtain ⟨ca, ha, hia, hseq, hstroke⟩ :=
        disabling_tracked (rate := rate) (ch := .a) hcalm ht hcap s.dev.clock ⟨hwas, hoff⟩ hk
      obtain ⟨cb, hb, hib⟩ := disabling_untracked (rate := rate) (produced := s.dev.counters.produced.bump .a)
        (chans := s.dev.chans.set .a ca) hcalm ht (.inr hcap) .b on.b s.dev.clock (huntracked hgb)
      refine ⟨_, _, happlies (.inr hcap) (fun ch => ?_) ((congrArg _ ha).trans hb), ?_, ?_, rfl, rfl, rfl, rfl,
        Option.isSome_iff_ne_none, rfl, rfl, rfl, rfl, rfl, rfl, rfl, rfl, rfl, Context.strokeOpen_iff _⟩
      · cases ch
        · exact fun _ => hia
        · exact hib
      · exact (congrArg Context.seq (Device.startedUnder_off hoff)).trans hseq
      · exact (congrArg Context.stroke (Device.startedUnder_off hoff)).trans hstroke

end Sys2Proof.Machine
end

section
/-!
PROOFS. The tool code of a reading (R33, R34).
-/
namespace Sys2Proof.Machine

open Sys2Proof

/-- The tool code of a reading, its digits written out (R33). -/
theorem toolCode_digits (a0 a1 a2 a3 a4 a5 a6 a7 : Fin 4) (rest : List (Fin 4)) :
    toolCode (a0 :: a1 :: a2 :: a3 :: a4 :: a5 :: a6 :: a7 :: rest)
      = a0.val * 4 ^ 7 + a1.val * 4 ^ 6 + a2.val * 4 ^ 5 + a3.val * 4 ^ 4 + a4.val * 4 ^ 3 + a5.val * 4 ^ 2
        + a6.val * 4 + a7.val := by
  simp only [toolCode, List.take_succ_cons, List.take_zero, List.foldl_cons, List.foldl_nil]
  ring

/-- Eight digits make a number of 16 bits (R33). -/
theorem foldl_digits_lt (ds : List (Fin 4)) :
    ∀ v, ds.foldl (fun v x => 4 * v + x.val) v < (v + 1) * 4 ^ ds.length := by
  induction ds with
  | nil => intro v; simp
  | cons x rest ih =>
    intro v
    calc rest.foldl (fun v x => 4 * v + x.val) (4 * v + x.val)
        < (4 * v + x.val + 1) * 4 ^ rest.length := ih _
      _ ≤ (4 * (v + 1)) * 4 ^ rest.length := Nat.mul_le_mul_right _ (by omega)
      _ = (v + 1) * 4 ^ (x :: rest).length := by rw [List.length_cons, pow_succ]; ring

theorem toolCode_lt (ds : List (Fin 4)) : toolCode ds < 65536 :=
  calc toolCode ds < (0 + 1) * 4 ^ (ds.take 8).length := foldl_digits_lt _ 0
    _ ≤ 4 ^ 8 := by
      rw [Nat.zero_add, Nat.one_mul]
      exact Nat.pow_le_pow_right (by decide) (List.length_take_le 8 ds)

/-- Of a number of 16 bits the fourth nibble is what stands above the third (R33). -/
theorem nibbleSum_of_lt {c : Nat} (h : c < 65536) :
    nibbleSum c = (c % 16 + c / 16 % 16 + c / 256 % 16 + c / 4096) % 16 := by
  rw [nibbleSum, Nat.mod_eq_of_lt (a := c / 4096) (by omega)]

/-- Settles O50: the two rows of R34's table for a tenth digit, by the check of R33. -/
theorem toolCodeDecodes : Obligations.ToolCodeDecodes := by
  intro c a0 a1 a2 a3 a4 a5 a6 a7 a8 a9 hread hdigits code check nibbles c'
  have hten : 9 ≤ c.digits.length := by rw [hdigits]; exact Nat.le_refl 9
  have hcode : toolCode (c.digits ++ [a9]) = code := by rw [hdigits]; exact toolCode_digits ..
  have hcheck : receivedCheck (c.digits ++ [a9]) = check := by rw [hdigits]; rfl
  have hlt : code < 65536 := hcode ▸ toolCode_lt _
  have hgood : receivedCheck (c.digits ++ [a9]) = nibbleSum (toolCode (c.digits ++ [a9])) ↔ check = nibbles % 16 := by
    rw [hcheck, hcode, nibbleSum_of_lt hlt]
  by_cases hg : check = nibbles % 16
  · have hknown : _ = c' := (Context.reads_iff c _ _).1 (.decoded a9 hread hten (hgood.2 hg))
    rw [← hknown, hcode]
    simp [hg, Nat.mod_eq_of_lt hlt]
  · have hfailed : _ = c' := (Context.reads_iff c _ _).1 (.failed a9 hread hten (mt hgood.1 hg))
    rw [← hfailed]
    by_cases ha : c.attempts < 2
    · simp [hg, ha]
    · simp [hg, ha]; omega

end Sys2Proof.Machine
end

section
/-!
PROOFS. SOLVER_NODE_READ, the fourth of a record, on a CLEAN node (R29, R40, R52): the end of the computation, its record and
its channel's context, and the close of the boundary.
-/
namespace Sys2Proof.Machine

open Sys2Proof

/-! ### The fourth read (R40, R52) -/

/-- A word without flips reads CLEAN, with cx and cy as written (R63). -/
theorem NodeWord.check_clean {w : NodeWord} (h : w.flips = 0) :
    w.check = { outcome := .clean, cx := w.cx, cy := w.cy, bit := 0 } := by
  have hv : w.verdict = .clean := by simp [NodeWord.verdict, h, flipCount]
  have hs : w.stored = w.cy ++ w.cx := by simp [NodeWord.stored, h]
  simp only [NodeWord.check, hv, hs, NodeRead.mk.injEq, true_and, and_true]
  exact ⟨BitVec.extractLsb'_append_eq_right, BitVec.extractLsb'_append_eq_left⟩

/-- The computation with a CLEAN word for its next answer (R52). -/
def SolverJob.answered (j : SolverJob) (w : NodeWord) : SolverJob :=
  { j with got := j.got ++ [{ cx := limitPart w.cx.toInt, cy := limitPart w.cy.toInt, bad := false }] }

/-- Channels without results take no step (R9). -/
theorem runSteps_unheard {f : Frame} {todo : List Channel} (h : ∀ ch ∈ todo, f.results ch = none) (realign : Bool)
    (d : Device) : runSteps todo f realign d = (d, true) := by
  induction todo with
  | nil => rfl
  | cons ch rest ih =>
    rw [runSteps, h ch List.mem_cons_self]
    exact ih fun x hx => h x (List.mem_cons_of_mem ch hx)

/-- The arbiter touches the map alone (R65). -/
theorem arbitrate_frame (d : Device) : ∃ m, arbitrate d = { d with map := m } := by
  unfold arbitrate
  split
  · exact ⟨d.map, rfl⟩
  · split
    · exact ⟨d.map, rfl⟩
    · next who _ =>
      obtain ⟨n, hn⟩ := grantWrite_eq d
      cases who
      · exact ⟨_, rfl⟩
      · simp only [grantTo, if_true, hn]; exact ⟨_, rfl⟩
      · exact ⟨_, rfl⟩

/-- The fourth read of a record is in progress, on a CLEAN node, in a boundary that ends in the next frame: no channel is
left to step, no arrival is kept, and RUN is 1. -/
structure Device.LastRead (d : Device) (b : Boundary) (g : Grant) : Prop where
  grant : d.map.grant = some g
  solver : g.who = .solver
  clean : g.word.flips = 0
  boundary : d.scan.engine = .boundary b
  three : b.job.got.length = 3
  unheard : ∀ ch ∈ b.todo, b.frame.results ch = none
  cut : b.realign = false
  arrivals : d.scan.arrivals = []
  run : d.regs.run = true

/-- A boundary that closes with RUN 1 and no arrival kept ends in the next frame. -/
theorem closeBoundary_starts {e : Device} (f : Frame) (hrun : e.regs.run = true) (hs : e.NoSetup)
    (ha : e.scan.arrivals = []) :
    afterBoundary (closeBoundary f false e) = (countFrame e).started e.clock := by
  rw [closeBoundary_run f hrun, startFrame_noSetup (d := countFrame e) hs]
  exact afterBoundary_started (d := countFrame e) e.clock ha

/-- The fourth read ends the computation, and the boundary closes. -/
theorem Device.LastRead.ends {d : Device} {b : Boundary} {g : Grant} (h : d.LastRead b g) :
    ∃ m, solverRead d = settleLink (afterBoundary (closeBoundary b.frame false
      (finishJob (b.job.answered g.word) false { d with map := m }))) := by
  have hnote : noteRead g.node g.word.check .solver d = d := by
    simp [NodeWord.check_clean h.clean, noteRead, countOutcome, offerLog]
  have hjob : { b.job with got := b.job.got ++ [g.word.check.correction] } = b.job.answered g.word := by
    rw [NodeWord.check_clean h.clean]; rfl
  have hfour : ¬(b.job.got ++ [g.word.check.correction]).length < 4 := by simp [h.three]
  obtain ⟨m, hm⟩ := arbitrate_frame (endGrant d)
  refine ⟨m, ?_⟩
  simp only [solverRead, h.grant, h.solver, h.boundary, solverAnswered, hnote, hjob, hm]
  rw [if_neg hfour]
  simp only [goBoundary, runSteps_unheard h.unheard, if_true, h.cut]
  rfl

/-! ### The record and its channel's context (R7, R29, R31) -/

/-- What a computation of the part comes to, its four reads answered: the record and the new S (R29). -/
def Device.computed (d : Device) (j : SolverJob) : Record × Nat := computedRecord d.board (d.ctx j.ch) j false

@[simp] theorem Device.computed_ch (d : Device) (j : SolverJob) : (d.computed j).1.ch = j.ch := rfl

/-- The record of a computation, its channel's gap applied (R99). -/
def Device.recordOf (d : Device) (j : SolverJob) : Record :=
  { (d.computed j).1 with flags := { (d.computed j).1.flags with gap := (d.ctx j.ch).gap } }

/-- The channel's context with what a computation leaves in it, before the record is produced (R29). -/
def Device.notedCtx (d : Device) (j : SolverJob) : Context :=
  { d.ctx j.ch with
    smooth := (d.computed j).2
    lastX := (d.computed j).1.x
    lastY := (d.computed j).1.y
    bridged := false
    changed := false }

/-- The channel's context once the record is produced: its sequence number is spent and no gap is pending (R31, R99). -/
def Device.spentCtx (d : Device) (j : SolverJob) : Context :=
  { d.notedCtx j with seq := (d.ctx j.ch).seq + 1, hoverCount := 0, gap := false }

/-- The part as a computation's record reaches the Delivery Unit: counted, its channel's gap still pending. -/
def Device.counted (d : Device) (j : SolverJob) : Device :=
  (countProduced j.ch d).setCtx j.ch { d.spentCtx j with gap := (d.ctx j.ch).gap }

/-- The part with a computation's record counted and its channel's step finished, wherever the record goes. -/
def Device.recorded (d : Device) (j : SolverJob) : Device :=
  (countProduced j.ch d).setCtx j.ch ((d.spentCtx j).updatePeaks j.results j.profile.prox)

/-- The peaks are all that an update of them changes (R7). -/
theorem Context.updatePeaks_frame (c : Context) (f : FrameResults) (n : Nat) : ∃ tx ty rx ry,
    c.updatePeaks f n = { c with peakTipX := tx, peakTipY := ty, peakRingX := rx, peakRingY := ry } := by
  unfold Context.updatePeaks; split
  · exact ⟨_, _, _, _, rfl⟩
  · exact ⟨c.peakTipX, c.peakTipY, c.peakRingX, c.peakRingY, rfl⟩

/-- A frame start keeps a channel's sequence number, gap and last position (R22). -/
theorem Device.started_keeps (d : Device) (tag : Micros) (ch : Channel) :
    ((d.started tag).ctx ch).seq = (d.ctx ch).seq ∧ ((d.started tag).ctx ch).gap = (d.ctx ch).gap
    ∧ ((d.started tag).ctx ch).lastX = (d.ctx ch).lastX ∧ ((d.started tag).ctx ch).lastY = (d.ctx ch).lastY := by
  rw [Device.ctx_started, Device.awake]
  split <;> exact ⟨rfl, rfl, rfl, rfl⟩

/-- A record without GAP, its channel's gap applied. -/
theorem Record.withGap_if {r : Record} (h : r.flags.gap = false) (g : Bool) :
    (if g then r.withGap else r) = { r with flags := { r.flags with gap := g } } := by
  cases g
  · rw [if_neg Bool.false_ne_true, ← h]
  · rfl

/-! ### The end of a computation, with no trace held (R21) -/

/-- With no trace held a step ends with its peaks. -/
theorem finishStep_untraced {d : Device} (ht : d.trace = none) (ch : Channel) (f : FrameResults) (n : Nat) (ev : RecEvent)
    (p : Nat) : finishStep ch f n ev p d = settleLink (d.setCtx ch ((d.ctx ch).updatePeaks f n)) := by
  simp [finishStep, receiveTraceFrame, ht]

/-- A context replaced twice. -/
theorem Device.setCtx_setCtx (d : Device) (ch : Channel) (c c' : Context) :
    (d.setCtx ch c).setCtx ch c' = d.setCtx ch c' := by cases ch <;> rfl

/-- A computation's end: its record is placed or held, the Link Port settles, and the peaks follow. -/
theorem finishJob_eq {d e : Device} {j : SolverJob}
    (h : settleLink (deliver (d.computed j).1 (d.counted j)) = e) (ht : e.trace = none) :
    finishJob j false d = settleLink (e.setCtx j.ch ((e.ctx j.ch).updatePeaks j.results j.profile.prox)) := by
  have hp : produce (d.computed j).1 (d.setCtx j.ch (d.notedCtx j)) = e := by
    have hcounted : d.counted j = countProduced j.ch ((d.setCtx j.ch (d.notedCtx j)).setCtx j.ch
        { d.notedCtx j with seq := (d.ctx j.ch).seq + 1, hoverCount := 0 }) := by
      rw [Device.setCtx_setCtx]; rfl
    rw [← h, hcounted, produce, d.computed_ch, Device.ctx_setCtx_same]
    rfl
  rw [← finishStep_untraced ht, ← hp]
  rfl

/-- The gap applied to a computation's record is the one pending on its channel. -/
theorem gapApplied_counted (d : Device) (j : SolverJob) : gapApplied (d.computed j).1 (d.counted j)
    = d.recordOf j := by
  rw [gapApplied, d.computed_ch, Device.counted, Device.ctx_setCtx_same]
  exact Record.withGap_if rfl _

/-- A computation's record delivered: its channel's gap is no longer pending. -/
theorem setGap_counted (d : Device) (j : SolverJob) :
    setGap j.ch false (d.counted j) = (countProduced j.ch d).setCtx j.ch (d.spentCtx j) := by
  rw [setGap, Device.counted, Device.ctx_setCtx_same, Device.setCtx_setCtx]
  rfl

end Sys2Proof.Machine
end

section
/-!
PROOFS. The fourth read while HALTED: the record is held (R99, R109).
-/
namespace Sys2Proof.Machine

open Sys2Proof

/-- Only the link's own moves, and RUN stands. -/
structure Device.LinkMoves (d d' : Device) : Prop where
  only : d.LinkOnly d'
  run : d'.regs.run = d.regs.run

theorem Device.LinkMoves.trans {d1 d2 d3 : Device} (h : d1.LinkMoves d2) (h' : d2.LinkMoves d3) : d1.LinkMoves d3 :=
  ⟨h.only.trans h'.only, h'.run.trans h.run⟩

/-- A channel's context takes a value, whatever the link's moves before. -/
theorem Device.LinkMoves.setCtx {d d' : Device} (h : d.LinkMoves d') (ch : Channel) (c : Context) :
    (d.setCtx ch c).LinkMoves (d'.setCtx ch c) := by
  obtain ⟨⟨l, i, r, rfl, hl⟩, hr⟩ := h
  exact ⟨⟨l, i, r, rfl, hl⟩, hr⟩

/-- The link's moves leave the channels. -/
theorem Device.LinkMoves.ctx {d d' : Device} (h : d.LinkMoves d') (ch : Channel) : d'.ctx ch = d.ctx ch := by
  obtain ⟨⟨l, i, r, rfl, hl⟩, hr⟩ := h
  rfl

/-- RUN is one of the values that the shared operations keep. -/
theorem run_of_kept {d d' : Device} (h : d'.kept = d.kept) : d'.regs.run = d.regs.run :=
  congrArg (fun k => k.regs.run) h

/-- While HALTED, with no trace and an idle Executor, the settling of the Link Port moves the link alone. -/
theorem settleLink_moves {d : Device} (hh : d.link.halted = true) (ht : d.trace = none) (he : d.exec = none) :
    d.LinkMoves (settleLink d) := ⟨settleLink_halted hh ht he, run_of_kept (kept_settleLink d)⟩

/-- The settling of a HALTED Link Port after its moves. -/
theorem Device.LinkMoves.settleLink {d d' : Device} (h : d.LinkMoves d') (hh : d.link.halted = true) (ht : d.trace = none)
    (he : d.exec = none) : d.LinkMoves (Machine.settleLink d') :=
  h.trans (settleLink_moves (h.only.halted.trans hh) (h.only.trace.trans ht) (h.only.exec.trans he))

/-- While HALTED a record that finds room joins the Holding Queue (R99, R101). -/
theorem deliver_joins {d : Device} (hh : d.link.halted = true) (hroom : d.delivery.holding.length < 64) (r : Record) :
    deliver r d = joinHolding r d := by
  have ha : appendHolding r d = joinHolding r d := if_pos hroom
  unfold deliver
  split
  · simp [hh, ha]
  · exact ha

/-- While HALTED such a record is held, and nothing else but EVENT and the link moves. -/
theorem deliver_moves {d : Device} (hh : d.link.halted = true) (hroom : d.delivery.holding.length < 64) (r : Record) :
    (d.held r).LinkMoves (deliver r d) := by
  refine ⟨deliver_halted hh hroom r, ?_⟩
  rw [deliver_joins hh hroom, joinHolding]
  split
  · exact run_of_kept (kept_setCause _ _)
  · rfl

/-- While HALTED a computation's record is held as the newest. -/
theorem finishJob_halted {d : Device} (hh : d.link.halted = true) (ht : d.trace = none) (he : d.exec = none)
    (hroom : d.delivery.holding.length < 64) (j : SolverJob) :
    (setHolding (d.delivery.holding ++ [d.recordOf j]) (d.recorded j)).LinkMoves
      (finishJob j false d) := by
  let x := (setHolding (d.delivery.holding ++ [d.recordOf j]) (countProduced j.ch d)).setCtx j.ch
    (d.spentCtx j)
  have hheld : (d.counted j).held (d.computed j).1 = x := by
    rw [Device.held, gapApplied_counted]
    exact congrArg (setHolding (d.delivery.holding ++ [d.recordOf j])) (setGap_counted d j)
  have hd : x.LinkMoves (deliver (d.computed j).1 (d.counted j)) :=
    hheld ▸ deliver_moves (d := d.counted j) hh hroom _
  have hs := hd.settleLink hh ht he
  have hctx : x.ctx j.ch = (d.spentCtx j) := Device.ctx_setCtx_same _ _ _
  have hpeaks := hs.setCtx j.ch ((d.spentCtx j).updatePeaks j.results j.profile.prox)
  rw [finishJob_eq rfl (hs.only.trace.trans ht), hs.ctx, hctx]
  refine Device.LinkMoves.settleLink ?_ hh ht he
  rw [Device.setCtx_setCtx] at hpeaks
  exact hpeaks

/-- While HALTED the fourth read's record is held and the next frame starts; the link moves besides. -/
theorem Device.LastRead.halted {d : Device} {b : Boundary} {g : Grant} (h : d.LastRead b g) (hh : d.link.halted = true)
    (ht : d.trace = none) (he : d.exec = none) (hroom : d.delivery.holding.length < 64) :
    ∃ m, ((countFrame (setHolding (d.delivery.holding ++ [d.recordOf (b.job.answered g.word)])
      (Device.recorded { d with map := m } (b.job.answered g.word)))).started d.clock).LinkOnly (solverRead d) := by
  obtain ⟨m, hread⟩ := h.ends
  refine ⟨m, ?_⟩
  have hjob := finishJob_halted (d := { d with map := m }) hh ht he hroom (b.job.answered g.word)
  generalize finishJob (b.job.answered g.word) false { d with map := m } = e at hjob hread
  obtain ⟨⟨l, i, r, rfl, hl⟩, hrun⟩ := hjob
  rw [hread, closeBoundary_starts b.frame (hrun.trans h.run) (fun _ _ hs => nomatch he.symm.trans hs) h.arrivals]
  refine Device.LinkOnly.trans ⟨l, i, r, rfl, hl⟩ (settleLink_halted ?_ ht he)
  exact hl.trans hh

end Sys2Proof.Machine
end

section
/-!
PROOFS. The fourth read in a calm part: the record is placed, and its capture goes on or completes (R99, R100, R116, R117, R120,
R138).
-/
namespace Sys2Proof.Machine

open Sys2Proof

/-- What concerns neither records held, link, trace nor Executor keeps a part calm. -/
theorem Device.Calm.keep {d d' : Device} (h : d.Calm) (hd : d'.delivery = d.delivery) (hl : d'.link = d.link)
    (ht : d'.trace = d.trace) (he : d'.exec = d.exec) : d'.Calm where
  up := hl ▸ h.up
  mastering := hl ▸ h.mastering
  live := hl ▸ h.live
  waiting := hl ▸ h.waiting
  buffer := hl ▸ h.buffer
  issued := hl ▸ h.issued
  slotQueue := hl ▸ h.slotQueue
  holding := hd ▸ h.holding
  staging := ht ▸ h.staging
  bulk := bulkGrant_none_of_exec he h.bulk

/-- The part once its one capture has received a record by this write, and has gone on, or completed for a reason: the
writes are in the buffer (R117, R120, R138). -/
def Device.received (d : Device) (k : Capture) (w : HostWrite) : Option Reason → Device
  | none => Device.wrote { d with delivery := { d.delivery with captures := [k] } } [w]
  | some e =>
    Device.wrote
      (clearMark k.slot { d with
        delivery := { d.delivery with captures := [] }, counters := d.counters.bumpReason e })
      [w, resultWrite (d.markOf k.slot) e.status .none (k.fields e), doneWrite (d.markOf k.slot)]

/-- A calm part whose one capture receives a record. -/
theorem settleLink_placeIn {d : Device} {k : Capture} (h : d.Calm) (hk : d.delivery.captures = [k]) (r : Record) :
    settleLink (placeIn k r d)
      = (countDelivered r.ch d).received (k.receive r) (recordWrite k r) ((k.receive r).endReason r) := by
  let x : Device := { countDelivered r.ch d with
    delivery := { d.delivery with captures := [k.receive r] }
    link := { d.link with buffer := [recordWrite k r] } }
  have hx : putCapture (k.receive r) (countDelivered r.ch (enterBuffer (recordWrite k r) d)) = x := by
    simp [x, putCapture, countDelivered, enterBuffer, hk, h.buffer, Capture.receive]
  have hbulk : ∀ {y : Device}, y.exec = d.exec → bulkGrant y = none := fun he => bulkGrant_none_of_exec he h.bulk
  rw [placeIn, hx, settleCapture]
  cases (k.receive r).endReason r with
  | none =>
    have hn : x.NoProducer := ⟨.inl h.holding, h.slotQueue, h.staging, hbulk rfl⟩
    exact settleLink_issues hn h.canIssue (List.cons_ne_nil _ _)
  | some e =>
    let y : Device := { x with delivery := { x.delivery with captures := [] }, counters := x.counters.bumpReason e }
    have hy : completeCapture (k.receive r) e x
        = completeSlot k.slot e.status .none ((k.receive r).fields e) y := by
      simp [completeCapture, x, y, Capture.receive]
    have hn : y.NoProducer := ⟨.inl h.holding, h.slotQueue, h.staging, hbulk rfl⟩
    simp only [hy]
    exact settleLink_completeSlot hn h.canIssue (Nat.le_succ 1) k.slot _ _ _

/-- A capture's receiving and a channel's context do not touch each other. -/
theorem Device.setCtx_received (d : Device) (k : Capture) (w : HostWrite) (e : Option Reason) (ch : Channel) (c : Context) :
    (d.received k w e).setCtx ch c = (d.setCtx ch c).received k w e := by cases e <;> rfl

/-- What a capture's receiving changes: the captures, the link, the slots' marks and the completion counters. -/
theorem Device.received_frame (d : Device) (k : Capture) (w : HostWrite) (e : Option Reason) : ∃ caps buffer marks n,
    d.received k w e = { d with
      delivery := { d.delivery with captures := caps }
      link := { d.link with buffer := buffer, issued := true }
      intake := { d.intake with inFlight := marks }
      counters := n }
    ∧ n.produced = d.counters.produced ∧ n.delivered = d.counters.delivered ∧ n.framesRun = d.counters.framesRun := by
  cases e with
  | none => exact ⟨_, _, d.intake.inFlight, d.counters, rfl, rfl, rfl, rfl⟩
  | some e => exact ⟨_, _, _, d.counters.bumpReason e, rfl, by cases e <;> exact ⟨rfl, rfl, rfl⟩⟩

/-- Once a capture has received a record and the head write is issued, the Link Port is settled. -/
theorem Device.received_settled {d : Device} (h : d.Calm) (k : Capture) (w : HostWrite) (e : Option Reason) :
    (d.received k w e).Settled := by
  obtain ⟨_, _, _, _, hx, -⟩ := d.received_frame k w e
  rw [hx]
  exact ⟨⟨.inl h.holding, h.slotQueue, h.staging, bulkGrant_none_of_exec (d := d) rfl h.bulk⟩, .inr rfl⟩

/-- A slot whose mark has been cleared is not in flight. -/
theorem isInFlight_clearMark (slot : Fin 32) (d : Device) : (clearMark slot d).isInFlight slot = false := by
  simp [Device.isInFlight, clearMark]

/-- A capture that completes leaves the queue, and its result and DONE follow the record (R120, R138). -/
theorem Device.received_completes (d : Device) (k : Capture) (w : HostWrite) {e : Reason} (h : e.status = .ok) :
    (d.received k w (some e)).delivery.captures = []
    ∧ (d.received k w (some e)).link.buffer
      = [w, resultWrite (d.markOf k.slot) .ok .none (k.fields e), doneWrite (d.markOf k.slot)]
    ∧ (d.received k w (some e)).isInFlight k.slot = false := by
  rw [← h]
  exact ⟨rfl, rfl, isInFlight_clearMark _ _⟩

/-- The part once its one capture has received a computation's record. -/
def Device.placed (d : Device) (j : SolverJob) (k : Capture) : Device :=
  let q := d.recordOf j
  (countDelivered j.ch (d.recorded j)).received (k.receive q) (recordWrite k q) ((k.receive q).endReason q)

/-- A capture that receives a computation's record goes on, or completes, by what R117 says of it. -/
theorem Device.placed_eq {d : Device} {j : SolverJob} {k : Capture} {e : Option Reason}
    (h : (k.receive (d.recordOf j)).endReason (d.recordOf j) = e) :
    d.placed j k = (countDelivered j.ch (d.recorded j)).received (k.receive (d.recordOf j))
      (recordWrite k (d.recordOf j)) e := by
  subst h; rfl

/-- What a computation's record leaves where it is placed, whatever its capture does. -/
theorem Device.placed_frame (d : Device) (j : SolverJob) (k : Capture) : ∃ caps buffer marks n,
    d.placed j k = { d.recorded j with
      delivery := { d.delivery with captures := caps }
      link := { d.link with buffer := buffer, issued := true }
      intake := { d.intake with inFlight := marks }
      counters := n }
    ∧ n.produced = d.counters.produced.bump j.ch ∧ n.delivered = d.counters.delivered.bump j.ch
    ∧ n.framesRun = d.counters.framesRun :=
  Device.received_frame (countDelivered j.ch (d.recorded j)) _ _ _

/-- A computation's record placed in a calm part leaves the Link Port settled. -/
theorem Device.placed_settled {d : Device} (h : d.Calm) (j : SolverJob) (k : Capture) : (d.placed j k).Settled :=
  Device.received_settled (d := countDelivered j.ch (d.recorded j)) (h.keep rfl rfl rfl rfl) _ _ _

/-- In a calm part, with no trace held, a computation's record is placed in the one capture that takes its channel. -/
theorem finishJob_placed {d : Device} {j : SolverJob} {k : Capture} (h : d.Calm) (ht : d.trace = none)
    (hk : d.delivery.captures = [k]) (hm : k.mask.get j.ch = true) : finishJob j false d = d.placed j k := by
  let q := d.recordOf j
  let x := (countProduced j.ch d).setCtx j.ch (d.spentCtx j)
  let y := (countDelivered j.ch x).received (k.receive q) (recordWrite k q) ((k.receive q).endReason q)
  have hx : x.Calm := h.keep rfl rfl rfl rfl
  have htaking : firstTaking (d.counted j).delivery.captures j.ch = some k := by
    rw [show (d.counted j).delivery.captures = [k] from hk]
    simp [firstTaking, Capture.takes, hm]
  have hopen : (!(d.counted j).link.halted && !((d.counted j).delivery.holding.any fun z => z.ch == j.ch)
      && (d.counted j).link.free) = true := by
    show (!d.link.halted && !(d.delivery.holding.any fun z => z.ch == j.ch) && d.link.free) = true
    simp [h.live, h.holding, LinkPort.free, h.buffer]
  have hd : deliver (d.computed j).1 (d.counted j) = placeIn k q x := by
    rw [deliver, d.computed_ch, htaking, gapApplied_counted, setGap_counted]
    exact if_pos hopen
  have hp : settleLink (deliver (d.computed j).1 (d.counted j)) = y := by
    rw [hd]; exact settleLink_placeIn hx hk q
  obtain ⟨_, _, _, _, hy, -⟩ :=
    (countDelivered j.ch x).received_frame (k.receive q) (recordWrite k q) ((k.receive q).endReason q)
  have hytrace : y.trace = none := (congrArg Device.trace hy).trans ht
  have hctx : y.ctx j.ch = (d.spentCtx j) :=
    (congrArg (Device.ctx · j.ch) hy).trans (Device.ctx_setCtx_same (countProduced j.ch d) _ _)
  have hpeaks : y.setCtx j.ch ((y.ctx j.ch).updatePeaks j.results j.profile.prox) = d.placed j k := by
    have hrecorded : (countDelivered j.ch x).setCtx j.ch
        ((d.spentCtx j).updatePeaks j.results j.profile.prox)
          = countDelivered j.ch (d.recorded j) := congrArg (countDelivered j.ch) (Device.setCtx_setCtx _ _ _ _)
    rw [hctx, Device.setCtx_received, hrecorded]
    rfl
  rw [finishJob_eq hp hytrace, hpeaks]
  exact settleLink_settled (Device.placed_settled h j k)

/-- In a calm part the fourth read's record is placed and the next frame starts. -/
theorem Device.LastRead.placed {d : Device} {b : Boundary} {g : Grant} {k : Capture} (h : d.LastRead b g) (hc : d.Calm)
    (hs : d.NoSetup) (ht : d.trace = none) (hk : d.delivery.captures = [k]) (hm : k.mask.get b.job.ch = true) :
    ∃ m, solverRead d
      = (countFrame (Device.placed { d with map := m } (b.job.answered g.word) k)).started d.clock := by
  obtain ⟨m, hread⟩ := h.ends
  refine ⟨m, ?_⟩
  have hcalm : Device.Calm { d with map := m } := hc.keep rfl rfl rfl rfl
  have hsettled := Device.placed_settled hcalm (b.job.answered g.word) k
  rw [hread, finishJob_placed (j := b.job.answered g.word) hcalm ht hk hm]
  obtain ⟨_, _, _, _, hx, -⟩ := Device.placed_frame { d with map := m } (b.job.answered g.word) k
  generalize Device.placed { d with map := m } (b.job.answered g.word) k = x at hx hsettled
  have hrun : x.regs.run = true := (congrArg (fun x => x.regs.run) hx).trans h.run
  have hsetup : x.NoSetup := fun slot p => ne_of_eq_of_ne (congrArg Device.exec hx) (hs slot p)
  have harr : x.scan.arrivals = [] := (congrArg (fun x => x.scan.arrivals) hx).trans h.arrivals
  have hclock : x.clock = d.clock := congrArg (fun x => x.clock) hx
  rw [closeBoundary_starts b.frame hrun hsetup harr, hclock]
  exact settleLink_settled (hsettled.keep rfl rfl rfl rfl)

/-! ### When a capture completes (R117) -/

/-- PROX_OUT comes first. -/
theorem Capture.endReason_proxOut {c : Capture} {r : Record} (h : c.endOnProxOut = true ∧ r.event = .proxOut) :
    c.endReason r = some .proxOut := by simp [Capture.endReason, h]

/-- Then LIFT. -/
theorem Capture.endReason_lift {c : Capture} {r : Record} (hp : ¬(c.endOnProxOut = true ∧ r.event = .proxOut))
    (h : c.endOnLift = true ∧ r.flags.strokeEnd = true) : c.endReason r = some .lift := by
  simp [Capture.endReason, hp, h]

/-- Then FULL. -/
theorem Capture.endReason_full {c : Capture} {r : Record} (hp : ¬(c.endOnProxOut = true ∧ r.event = .proxOut))
    (hl : ¬(c.endOnLift = true ∧ r.flags.strokeEnd = true)) (h : c.count = c.capacity) : c.endReason r = some .full := by
  simp [Capture.endReason, hp, hl, h]

/-- Otherwise the capture goes on. -/
theorem Capture.endReason_none {c : Capture} {r : Record} (hp : ¬(c.endOnProxOut = true ∧ r.event = .proxOut))
    (hl : ¬(c.endOnLift = true ∧ r.flags.strokeEnd = true)) (h : c.count ≠ c.capacity) : c.endReason r = none := by
  simp [Capture.endReason, hp, hl, h]

/-- The channel's context once its computation's record is produced: the number spent, the position kept (R29, R31). -/
theorem Device.ctx_recorded (d : Device) (j : SolverJob) :
    ((d.recorded j).ctx j.ch).seq = (d.ctx j.ch).seq + 1 ∧ ((d.recorded j).ctx j.ch).gap = false
    ∧ ((d.recorded j).ctx j.ch).lastX = (d.recordOf j).x
    ∧ ((d.recorded j).ctx j.ch).lastY = (d.recordOf j).y := by
  obtain ⟨_, _, _, _, hpeaks⟩ :=
    Context.updatePeaks_frame (d.spentCtx j) j.results j.profile.prox
  rw [Device.recorded, Device.ctx_setCtx_same, hpeaks]
  exact ⟨rfl, rfl, rfl, rfl⟩

/-- Settles O20: the fourth read ends the computation, whose record is held or placed, and the boundary closes. -/
theorem solverLastReadProducesRecord : Obligations.SolverLastReadProducesRecord := by
  intro s b g hg hwho hclean he hgot hun hr harr hrun j c st got pt made stepped
  have hlast : s.dev.LastRead b g := ⟨hg, hwho, hclean, he, hgot, hun, hr, harr, hrun⟩
  let q := s.dev.recordOf (j.answered g.word)
  have hmade : made q := by
    refine ⟨rfl, rfl, rfl, rfl, rfl, rfl, rfl, rfl, rfl, rfl, rfl, rfl, ?mapFault, rfl, rfl, rfl, rfl⟩
    simp [q, Device.recordOf, Device.computed, computedRecord, SolverJob.answered]
  have hstepped : ∀ {x t : Device}, ((countFrame x).started s.dev.clock).LinkOnly t → solverRead s.dev = t →
      x.ctx j.ch = (s.dev.recorded (j.answered g.word)).ctx j.ch →
      x.counters.produced = s.dev.counters.produced.bump j.ch →
      x.counters.framesRun = s.dev.counters.framesRun → stepped { s with dev := t } := by
    rintro x t ⟨l, i, r, rfl, -⟩ ht hctx hproduced hframes
    obtain ⟨hseq, hgap, hx, hy⟩ := hctx ▸ s.dev.ctx_recorded (j.answered g.word)
    obtain ⟨hseq', hgap', hx', hy'⟩ := (countFrame x).started_keeps s.dev.clock j.ch
    refine ⟨_, ?exec, rfl, hseq'.trans hseq, hgap'.trans hgap, hx'.trans hx, hy'.trans hy, ?produced, ?frames, rfl, rfl⟩
    case exec => rw [← ht]; rfl
    case produced => exact (congrArg (PerChannel.get · j.ch) hproduced).trans (PerChannel.get_set_same _ _ _)
    case frames => exact congrArg (· + 1) hframes
  refine ⟨fun hh hquiet hroom => ?halted, fun k hcalm hsetup htrace hk hm => ?placed⟩
  case halted =>
    obtain ⟨-, -, -, -, hidle, htrace⟩ := hquiet hh
    obtain ⟨map, hlink⟩ := hlast.halted hh htrace hidle hroom
    refine ⟨_, q, hstepped hlink rfl rfl rfl rfl, hmade, ?held⟩
    case held =>
      obtain ⟨_, _, _, ht, -⟩ := hlink
      exact congrArg (fun t => t.delivery.holding) ht
  case placed =>
    intro m
    obtain ⟨map, ht⟩ := hlast.placed hcalm hsetup htrace hk hm
    let y := countDelivered j.ch (Device.recorded { s.dev with map := map } (j.answered g.word))
    let x := Device.placed { s.dev with map := map } (j.answered g.word) k
    obtain ⟨_, _, _, _, hx, hproduced, hdelivered, hframes⟩ :=
      Device.placed_frame { s.dev with map := map } (j.answered g.word) k
    have hx : x = _ := hx
    refine ⟨{ s with dev := (countFrame x).started s.dev.clock }, q, hstepped (.refl _) ht ?ctx ?produced ?frames, hmade,
      ?holding, ?slotQueue, ?issued, ?delivered, ?captures⟩
    case ctx => rw [hx]; rfl
    case produced => rw [hx]; exact hproduced
    case frames => rw [hx]; exact hframes
    case holding => exact (congrArg (fun x => x.delivery.holding) hx).trans hcalm.holding
    case slotQueue => exact (congrArg (fun x => x.link.slotQueue) hx).trans hcalm.slotQueue
    case issued => exact congrArg (fun x => x.link.issued) hx
    case delivered =>
      have hbump : x.counters.delivered = s.dev.counters.delivered.bump j.ch := by rw [hx]; exact hdelivered
      exact (congrArg (PerChannel.get · j.ch) hbump).trans (PerChannel.get_set_same _ _ _)
    case captures =>
      intro record k' proxOut lift full completes
      have hby : ∀ {e}, (k.receive q).endReason q = e → x = y.received k' record e := fun he => Device.placed_eq he
      have hcompletes : ∀ {e}, x = y.received k' record (some e) → e.status = .ok → completes e := by
        intro e he hok
        have h := y.received_completes k' record hok
        rw [← he] at h
        exact h
      refine ⟨fun hp hl hf => ?goesOn, fun hp => ?proxOut, fun hp hl => ?lift, fun hp hl hf => ?full⟩
      case goesOn =>
        have he := hby (Capture.endReason_none hp hl hf)
        exact ⟨congrArg (fun x => x.delivery.captures) he, congrArg (fun x => x.link.buffer) he,
          congrArg (fun x => x.intake) he⟩
      case proxOut =>
        have he := hby (Capture.endReason_proxOut hp)
        exact ⟨hcompletes he rfl, congrArg (fun x => x.counters.capProxOut) he⟩
      case lift =>
        have he := hby (Capture.endReason_lift hp hl)
        exact ⟨hcompletes he rfl, congrArg (fun x => x.counters.capLift) he⟩
      case full =>
        have he := hby (Capture.endReason_full hp hl hf)
        exact ⟨hcompletes he rfl, congrArg (fun x => x.counters.capFull) he⟩

end Sys2Proof.Machine
end

section
/-!
PROOFS. SOLVER_NODE_READ, one of the first three of a record (R40, R52, R63, R65 to R68): the answer kept, and the next node's
grant.
-/
namespace Sys2Proof.Machine

open Sys2Proof

/-- A word with one bit flipped reads CORRECTED, with cx and cy as written (R63). -/
theorem NodeWord.check_corrected {w : NodeWord} {b : Fin 39} (h : w.flips = BitVec.twoPow 39 b.val) :
    w.check = { outcome := .corrected, cx := w.cx, cy := w.cy, bit := b.val } := by
  have hv : w.verdict = .corrected b := by
    simp [NodeWord.verdict, h, (flipCount_one b).1, (flipCount_one b).2]
  have hs : w.stored ^^^ (BitVec.twoPow 39 b.val).extractLsb' 0 32 = w.cy ++ w.cx := by
    rw [NodeWord.stored, h, BitVec.xor_assoc, BitVec.xor_self, BitVec.xor_zero]
  simp only [NodeWord.check, hv, hs, NodeRead.mk.injEq, true_and, and_true]
  exact ⟨BitVec.extractLsb'_append_eq_right, BitVec.extractLsb'_append_eq_left⟩

/-- The correction the Solver keeps of a noted read: (0, 0) when UNCORRECTABLE, else the word's own within limits (R52). -/
theorem Device.Notes.correction {d d' : Device} {node : Nat} {w : NodeWord} {who : Requester} {o : ReadOutcome}
    (h : d.Notes node w who o d') : w.check.correction = if o = .uncorrectable then { cx := 0, cy := 0, bad := true }
      else { cx := limitPart w.cx.toInt, cy := limitPart w.cy.toInt, bad := false } := by
  have ho : w.check.outcome = o := (noteRead_notes h).1
  cases h with
  | clean hf => rw [NodeWord.check_clean hf]; rfl
  | corrected b hf => rw [NodeWord.check_corrected hf]; rfl
  | uncorrectable => rw [NodeRead.correction, ho]; rfl

/-- An offer to the Map Error Log touches the log, EVENT and what has gone out (R68). -/
theorem Device.Offered.frame {d d' : Device} {e : MapLogEntry} (h : d.Offered e d') :
    d' = { d with map := { d.map with log := d'.map.log }, link := d'.link, regs := d'.regs } := by
  cases h with
  | full => rfl
  | first _ hr => cases hr <;> rfl

/-- A noted read touches the log, EVENT, what has gone out, and the counters (R67). -/
theorem Device.Notes.frame {d d' : Device} {node : Nat} {w : NodeWord} {who : Requester} {o : ReadOutcome}
    (h : d.Notes node w who o d') : d' = { d with
      map := { d.map with log := d'.map.log }, link := d'.link, regs := d'.regs, counters := d'.counters } := by
  cases h with
  | clean => rfl
  | corrected _ _ ho => rw [ho.frame]
  | uncorrectable _ _ _ _ ho => rw [ho.frame]

/-- Within a boundary, a Solver's request at a free port where none waits is granted at once (R65). -/
theorem requestSolver_granted {d : Device} {b : Boundary} {node : Nat} (hb : d.scan.engine = .boundary b)
    (hnode : b.job.node d.board = node) (hg : d.map.grant = none) (hw : d.map.solverWaiting = false)
    (he : d.map.execWaiting = false) (hs : d.map.scrubWaiting = false) :
    requestSolver d = { d with map := { d.map with
      grant := some { who := .solver, node := node, word := readNode d.map.nodes node } } } := by
  simp [requestSolver, arbitrate, hg, CorrectionMap.choose, hw, he, hs, grantTo, passAfter, Device.requestNode, Device.job,
    hb, hnode]

/-- A Solver's read before the fourth keeps its correction and places the next (R40, R52). -/
theorem solverRead_next {d d' : Device} {b : Boundary} {g : Grant} {o : ReadOutcome} (hg : d.map.grant = some g)
    (hwho : g.who = .solver) (hb : d.scan.engine = .boundary b) (hgot : b.job.got.length < 3)
    (hn : d.Notes g.node g.word .solver o d') :
    solverRead d = requestSolver { endGrant d' with scan := { d'.scan with
      engine := .boundary { b with job := { b.job with got := b.job.got ++ [g.word.check.correction] } } } } := by
  simp only [solverRead, hg, hwho, hb, solverAnswered, (noteRead_notes hn).2]
  rw [if_pos (by simp; omega)]
  rfl

/-- Settles O19: the answer is noted and kept, and the next of the four nodes is granted. -/
theorem solverReadPlacesNext : Obligations.SolverReadPlacesNext := by
  intro s b g hg hwho hb hgot he hs hw st n node next used o d hn c
  have hc : g.word.check.correction = c := hn.correction
  have hnode : SolverJob.node s.dev.board { b.job with got := b.job.got ++ [c] } = node := by
    simp [SolverJob.node, cellNode, Board.nodesX, node, n, st, Board.nx, Nat.add_assoc]
  have hread := solverRead_next hg hwho hb hgot hn
  rw [hc] at hread
  rw [hn.frame] at hread ⊢
  have hgranted := hread.trans (requestSolver_granted rfl hnode rfl hw he hs)
  exact congrArg (fun d => Host.Outcome.next { s with dev := d }) hgranted

end Sys2Proof.Machine
end

section
/-!
PROOFS. Stage 1 of the Stroke Solver (R41 to R45): the peak, its neighbours, the crest offset and the raw position.
-/
namespace Sys2Proof.Machine

open Sys2Proof

/-- A truncated quotient lies between the multiples of its divisor that its dividend lies between. -/
theorem tdiv_between {x d lo hi : Int} (hd : 0 < d) (hlo : lo * d ≤ x) (hhi : x ≤ hi * d) :
    lo ≤ x.tdiv d ∧ x.tdiv d ≤ hi :=
  ⟨Int.le_tdiv_of_mul_le hd hlo, (Int.tdiv_le_tdiv hd hhi).trans_eq (Int.mul_tdiv_cancel _ hd.ne')⟩

/-! ### The peak (R41) -/

/-- A place and a value are the lowest place and the value of the greatest of these amplitudes, or 0 and 0 with none. -/
structure IsPeak (amps : List Amp) (k v : Nat) : Prop where
  value : (amps.getD k 0).toNat = v
  greatest : ∀ i, (amps.getD i 0).toNat ≤ v
  lowest : ∀ i < k, (amps.getD i 0).toNat < v

/-- One amplitude more, and the others as they were. -/
theorem getD_concat (l : List Amp) (a : Amp) (i : Nat) :
    (l ++ [a]).getD i 0 = if i = l.length then a else l.getD i 0 := by
  rcases Nat.lt_trichotomy i l.length with h | rfl | h
  · rw [if_neg h.ne, List.getD_append _ _ _ _ h]
  · simp
  · rw [if_neg h.ne', List.getD_eq_default _ _ (by simp; omega), List.getD_eq_default _ _ h.le]

/-- A greater amplitude is the new peak. -/
theorem IsPeak.concat_greater {l : List Amp} {k v : Nat} (h : IsPeak l k v) {a : Amp} (ha : v < a.toNat) :
    IsPeak (l ++ [a]) l.length a.toNat where
  value := by simp
  greatest i := by
    have := h.greatest i
    rw [getD_concat]; split <;> omega
  lowest i hi := by
    have := h.greatest i
    rw [getD_concat, if_neg hi.ne]; omega

/-- Another amplitude leaves the peak. -/
theorem IsPeak.concat_other {l : List Amp} {k v : Nat} (h : IsPeak l k v) {a : Amp} (ha : a.toNat ≤ v) :
    IsPeak (l ++ [a]) k v where
  value := by
    have hv := h.value
    rw [getD_concat]; split
    · next hk => rw [List.getD_eq_default _ _ hk.ge] at hv; simp at hv; omega
    · exact hv
  greatest i := by
    have := h.greatest i
    rw [getD_concat]; split <;> omega
  lowest i hi := by
    have hlow := h.lowest i hi
    rw [getD_concat]; split
    · next hl =>
      have hv := h.value
      rw [List.getD_eq_default _ _ (by omega)] at hv
      simp at hv; omega
    · exact hlow

/-- The walk keeps the peak of what it has passed. -/
theorem isPeak_peakGo : ∀ (rest passed : List Amp) {k v : Nat}, IsPeak passed k v →
    IsPeak (passed ++ rest) (peakGo rest passed.length k v).1 (peakGo rest passed.length k v).2 := by
  intro rest
  induction rest with
  | nil => intro passed k v h; simpa [peakGo] using h
  | cons a rest ih =>
    intro passed k v h
    have next : passed ++ a :: rest = (passed ++ [a]) ++ rest := by simp
    have len : passed.length + 1 = (passed ++ [a]).length := by simp
    rw [peakGo, next, len]
    split
    · next ha => exact ih _ (h.concat_greater ha)
    · next ha => exact ih _ (h.concat_other (Nat.le_of_not_lt ha))

/-- The peak of a part is the lowest place of its greatest amplitude. -/
theorem isPeak_peakOf (amps : List Amp) : IsPeak amps (peakOf amps).1 (peakOf amps).2 :=
  isPeak_peakGo amps [] ⟨rfl, fun _ => Nat.le_refl 0, fun _ h => absurd h (Nat.not_lt_zero _)⟩

/-- The peak of a part that has amplitudes is one of them. -/
theorem IsPeak.lt_length {amps : List Amp} {k v : Nat} (h : IsPeak amps k v) (hl : 0 < amps.length) :
    k < amps.length := by
  by_contra hk
  have hv := h.value
  rw [List.getD_eq_default _ _ (by omega)] at hv
  have := h.lowest 0 (by omega)
  simp at hv; omega

/-! ### The neighbours (R42) -/

/-- At a window's lower edge inside the grid the lower neighbour is a copy of the upper one. -/
theorem neighbours_windowLow {n : Nat} {p : PartResult} {k : Nat} (h : k = 0 ∧ p.origin ≠ 0) :
    neighbours n p k = (p.amp 1, p.amp 1, true) := by
  simp [neighbours, h]

/-- At a window's upper edge inside the grid the upper neighbour is a copy of the lower one. -/
theorem neighbours_windowHigh {n : Nat} {p : PartResult} {k : Nat} (hlow : ¬(k = 0 ∧ p.origin ≠ 0))
    (h : k + 1 = p.amps.length ∧ p.origin + p.amps.length ≠ n) :
    neighbours n p k = (p.amp (k - 1), p.amp (k - 1), true) := by
  have hn : k + 1 = p.amps.length ∧ p.origin + k + 1 ≠ n := by omega
  simp only [neighbours]
  rw [if_neg (by simpa using hlow), if_pos (by simpa using hn)]

/-- Elsewhere the neighbours are the amplitudes beside the peak, 0 beyond a grid edge. -/
theorem neighbours_inside {n : Nat} {p : PartResult} {k : Nat} (hlow : ¬(k = 0 ∧ p.origin ≠ 0))
    (hhigh : ¬(k + 1 = p.amps.length ∧ p.origin + p.amps.length ≠ n)) : neighbours n p k
      = (if k = 0 then 0 else p.amp (k - 1), if k + 1 = p.amps.length then 0 else p.amp (k + 1), false) := by
  have hn : ¬(k + 1 = p.amps.length ∧ p.origin + k + 1 ≠ n) := by omega
  simp only [neighbours]
  rw [if_neg (by simpa using hlow), if_neg (by simpa using hn)]
  simp

/-- Neither neighbour is above the peak. -/
theorem neighbours_le_peak (n : Nat) (p : PartResult) :
    (neighbours n p (peakOf p.amps).1).1 ≤ (peakOf p.amps).2
    ∧ (neighbours n p (peakOf p.amps).1).2.1 ≤ (peakOf p.amps).2 := by
  have hamp : ∀ i, p.amp i ≤ (peakOf p.amps).2 := fun i => Int.ofNat_le.2 ((isPeak_peakOf p.amps).greatest i)
  have hbeyond : ∀ (c : Prop) [Decidable c] i, (if c then 0 else p.amp i) ≤ (peakOf p.amps).2 := by
    intro c _ i
    split
    · exact Int.natCast_nonneg _
    · exact hamp i
  by_cases hlow : (peakOf p.amps).1 = 0 ∧ p.origin ≠ 0
  · rw [neighbours_windowLow hlow]; exact ⟨hamp _, hamp _⟩
  by_cases hhigh : (peakOf p.amps).1 + 1 = p.amps.length ∧ p.origin + p.amps.length ≠ n
  · rw [neighbours_windowHigh hlow hhigh]; exact ⟨hamp _, hamp _⟩
  · rw [neighbours_inside hlow hhigh]; exact ⟨hbeyond _ _, hbeyond _ _⟩

/-- At a window edge inside the grid the neighbours are copies of each other. -/
theorem neighbours_copies {n : Nat} {p : PartResult} {k : Nat} (h : (neighbours n p k).2.2 = true) :
    (neighbours n p k).1 = (neighbours n p k).2.1 := by
  by_cases hlow : k = 0 ∧ p.origin ≠ 0
  · rw [neighbours_windowLow hlow]
  by_cases hhigh : k + 1 = p.amps.length ∧ p.origin + p.amps.length ≠ n
  · rw [neighbours_windowHigh hlow hhigh]
  · rw [neighbours_inside hlow hhigh] at h; cases h

/-! ### The crest offset (R43) -/

/-- Beside neighbours that are not greater the crest lies within half a loop of the peak's centre. -/
theorem crestOffset_mem {am a0 ap : Int} (hm : am ≤ a0) (hp : ap ≤ a0) :
    -128 ≤ crestOffset am a0 ap ∧ crestOffset am a0 ap ≤ 128 := by
  unfold crestOffset
  dsimp only
  split
  · decide
  · exact tdiv_between (by omega) (by omega) (by omega)

/-- Between equal neighbours the crest is the peak's centre. -/
theorem crestOffset_self (am a0 : Int) : crestOffset am a0 am = 0 := by simp [crestOffset]

/-- The raw position is the peak loop's centre plus the crest offset. -/
theorem interpolate_raw (n : Nat) (p : PartResult) :
    (interpolate n p).raw = 256 * ((p.origin : Int) + ((peakOf p.amps).1 : Int)) + 128
      + crestOffset (neighbours n p (peakOf p.amps).1).1 (peakOf p.amps).2
        (neighbours n p (peakOf p.amps).1).2.1 := by
  simp [interpolate]; ring

/-- Settles O51: the three shapes of a peak's neighbourhood, with the bound on the crest offset. -/
theorem rawPositionInRange : Obligations.RawPositionInRange := by
  intro n p hshape k a off windowLow windowHigh am ap d
  have hpeak := isPeak_peakOf p.amps
  have hk : k < p.amps.length := hpeak.lt_length (by omega)
  have hvalue : ((peakOf p.amps).2 : Int) = a k := congrArg Nat.cast hpeak.value.symm
  have hnb : neighbours n p k = (am, ap, decide (windowLow ∨ windowHigh)) := by
    by_cases hlow : windowLow
    · have h0 : k = 0 := hlow.1
      have hlast : k + 1 ≠ p.amps.length := by omega
      have hhigh : ¬windowHigh := fun h => hlast h.1
      have ham : am = p.amp 1 := if_pos hlow
      have hap : ap = p.amp 1 := (if_neg hhigh).trans ((if_neg hlast).trans (congrArg (fun i => a (i + 1)) h0))
      rw [neighbours_windowLow hlow, ham, hap, decide_eq_true (.inl hlow)]
    · have ham : am = if k = 0 then 0 else p.amp (k - 1) := if_neg hlow
      by_cases hhigh : windowHigh
      · have h0 : k ≠ 0 := by have := hhigh.1; omega
        have hap : ap = p.amp (k - 1) := if_pos hhigh
        rw [neighbours_windowHigh hlow hhigh, ham, if_neg h0, hap, decide_eq_true (.inr hhigh)]
      · have hap : ap = if k + 1 = p.amps.length then 0 else p.amp (k + 1) := if_neg hhigh
        rw [neighbours_inside hlow hhigh, ham, hap, decide_eq_false (not_or.2 ⟨hlow, hhigh⟩)]
  have hraw : (interpolate n p).raw = 256 * ((p.origin : Int) + (k : Int)) + 128 + crestOffset am (a k) ap := by
    rw [interpolate_raw, show neighbours n p (peakOf p.amps).1 = _ from hnb, hvalue]
  have hoff : off = crestOffset am (a k) ap := by simp only [off, hraw]; ring
  have hle : am ≤ a k ∧ ap ≤ a k := by
    have h := neighbours_le_peak n p
    rwa [show neighbours n p (peakOf p.amps).1 = _ from hnb, hvalue] at h
  obtain ⟨hlo, hhi⟩ := crestOffset_mem hle.1 hle.2
  have hedge : (interpolate n p).edge = true ↔ windowLow ∨ windowHigh := by
    show (neighbours n p k).2.2 = true ↔ _
    rw [hnb, decide_eq_true_iff]
  have hd : 0 ≤ d := sub_nonneg.2 (by linarith [hle.1, hle.2])
  refine ⟨hk, fun i => hpeak.value ▸ hpeak.greatest i, fun i hi => hpeak.value ▸ hpeak.lowest i hi, hd, ?zero,
    ?quotient, hoff ▸ hlo, hoff ▸ hhi, by omega, by omega, hedge, ?copies⟩
  case zero => intro hd; rw [hoff]; exact if_pos hd
  case quotient => intro hd; rw [hoff]; exact if_neg hd
  case copies =>
    intro he
    have hsame : am = ap := by
      have h := neighbours_copies (n := n) (p := p) he
      rwa [show neighbours n p (peakOf p.amps).1 = _ from hnb] at h
    rw [hoff, hsame, crestOffset_self]

end Sys2Proof.Machine
end

section
/-!
PROOFS. Stages 2 to 5 of the Stroke Solver and the record they make (R44 to R58).
-/
namespace Sys2Proof.Machine

open Sys2Proof

/-! ### Tilt and bias (R46 to R49) -/

theorem FrameResults.weakRing_iff (f : FrameResults) (n : Nat) :
    f.weakRing n = true ↔ f.ringX.peakAmp < n / 4 ∨ f.ringY.peakAmp < n / 4 := by
  simp [FrameResults.weakRing]

/-- The tilt of an axis is the table's lean, limited to 600, with the displacement's sign (R47, R48). -/
theorem axisTilt_fst (disp : Int) (s : Nat) : (axisTilt disp s).1
    = if 0 ≤ disp then min 600 (tiltMagnitude (leanSine disp s) : Int)
      else -(min 600 (tiltMagnitude (leanSine disp s)) : Nat) := by
  simp only [axisTilt, decide_eq_true_eq]
  split <;> split <;> omega

/-- The tilt of an axis reached its limit when the table's lean is beyond it. -/
theorem axisTilt_snd (disp : Int) (s : Nat) : (axisTilt disp s).2 = true ↔ 600 < tiltMagnitude (leanSine disp s) := by
  simp [axisTilt]

/-- A number limited to an axis of n loops. -/
theorem toNat_clampInt_grid (n : Nat) (v : Int) :
    ((clampInt v 0 ((n : Int) * 256 - 1)).toNat : Int) = max 0 (min v (256 * n - 1)) := by
  unfold clampInt; omega

/-- A position limited to an axis is on it. -/
theorem lt_of_eq_grid {n k : Nat} {v : Int} (hn : 0 < n) (h : (k : Int) = max 0 (min v (256 * n - 1))) :
    k < 256 * n := by omega

section
variable {weak : Prop} {b : Bool} (hw : b = true ↔ weak)
include hw

/-- With a weak ring no limit is reached (R46, R48). -/
theorem tiltLimit_ring (dx dy : Int) (s : Nat) :
    (!b && ((axisTilt (if b then 0 else dx) s).2 || (axisTilt (if b then 0 else dy) s).2)) = true
      ↔ ¬weak ∧ (600 < tiltMagnitude (leanSine dx s) ∨ 600 < tiltMagnitude (leanSine dy s)) := by
  rw [← axisTilt_snd, ← axisTilt_snd, ← hw]
  cases b
  · simp
  · simp

/-- A ring's edge counts when the ring is strong (R45). -/
theorem edge_ring (tip ring : Bool) : (tip || (!b && ring)) = true ↔ tip = true ∨ (¬weak ∧ ring = true) := by
  rw [← hw]; simp

variable [Decidable weak]

/-- With a strong ring the tip is pulled back by its share of the displacement, with a weak one it stays (R46, R49). -/
theorem biasedTip_ring (n : Nat) (tip disp : Int) (bias : Nat) : (biasedTip n tip (if b then 0 else disp) bias : Int)
    = max 0 (min (if weak then tip else tip - (disp * bias).tdiv 64) (256 * n - 1)) := by
  rw [biasedTip, toNat_clampInt_grid]
  by_cases h : weak
  · simp [h, hw.2 h]
  · simp [h, mt hw.1 h]

/-- With a weak ring there is no tilt (R46, R47). -/
theorem axisTilt_ring (disp : Int) (s : Nat) : (if b then 0 else (axisTilt (if b then 0 else disp) s).1)
    = if weak then 0 else if 0 ≤ disp then min 600 (tiltMagnitude (leanSine disp s) : Int)
      else -(min 600 (tiltMagnitude (leanSine disp s)) : Nat) := by
  rw [← axisTilt_fst]
  by_cases h : weak
  · simp [h, hw.2 h]
  · simp [h, mt hw.1 h]

end

/-! ### The map correction (R53, R54) -/

/-- The weighted correction of one axis at a point, its place in the cell taken from the point. -/
theorem blend_mod (x y : Nat) (c00 c10 c01 c11 : Int) : blend (x % 1024) (y % 1024) c00 c10 c01 c11
    = (c00 * ((1024 - (x : Int) % 1024) * (1024 - (y : Int) % 1024)) + c10 * ((x : Int) % 1024 * (1024 - (y : Int) % 1024))
      + c01 * ((1024 - (x : Int) % 1024) * ((y : Int) % 1024)) + c11 * ((x : Int) % 1024 * ((y : Int) % 1024)) + 524288)
      / 1048576 := by
  simp [blend]

/-! ### The profile's points (R86) -/

/-- Points that pass the check of r rise. -/
theorem rises_of_badR : ∀ (l : List Nat) {prev n : Nat}, badR prev l n = none →
    ∀ i < l.length, (prev :: l).getD i 0 < (prev :: l).getD (i + 1) 0 := by
  intro l
  induction l with
  | nil => intro _ _ _ i hi; exact absurd hi (Nat.not_lt_zero i)
  | cons r rest ih =>
    intro prev n h i hi
    rw [badR] at h
    split at h
    · next hr =>
      cases i with
      | zero => exact hr.1
      | succ i => exact ih h i (Nat.lt_of_succ_lt_succ hi)
    · cases h

/-- Points that pass the check of p do not fall, and are at most 16383. -/
theorem climbs_of_badP : ∀ (l : List Nat) {prev n : Nat}, badP prev l n = none →
    ∀ i < l.length, (prev :: l).getD i 0 ≤ (prev :: l).getD (i + 1) 0 ∧ (prev :: l).getD (i + 1) 0 ≤ 16383 := by
  intro l
  induction l with
  | nil => intro _ _ _ i hi; exact absurd hi (Nat.not_lt_zero i)
  | cons r rest ih =>
    intro prev n h i hi
    rw [badP] at h
    split at h
    · next hr =>
      cases i with
      | zero => exact hr
      | succ i => exact ih h i (Nat.lt_of_succ_lt_succ hi)
    · cases h

/-- The nine points of a profile's curve: r0 to r8 rise, p0 to p8 do not fall, and no p is above 16383. -/
structure Profile.Curved (p : Profile) : Prop where
  rises : ∀ i < 8, p.rs.getD i 0 < p.rs.getD (i + 1) 0
  climbs : ∀ i < 8, p.ps.getD i 0 ≤ p.ps.getD (i + 1) 0
  first : p.ps.getD 0 0 ≤ 16383
  bounded : ∀ i < 8, p.ps.getD (i + 1) 0 ≤ 16383

/-- A profile that passed its checks, with nine points of each kind, has such a curve. -/
theorem Profile.Valid.curved {p : Profile} (h : p.Valid) (hr : p.rs.length = 9) (hp : p.ps.length = 9) : p.Curved := by
  obtain ⟨r0, rs, hrs⟩ := List.exists_cons_of_length_eq_add_one hr
  obtain ⟨p0, ps, hps⟩ := List.exists_cons_of_length_eq_add_one hp
  have hrl : rs.length = 8 := by simpa [hrs] using hr
  have hpl : ps.length = 8 := by simpa [hps] using hp
  have hchecks : badR r0 rs 5 = none ∧ p0 ≤ 16383 ∧ badP p0 ps 14 = none := by
    simp only [Profile.Valid, Profile.firstBad, hrs, hps, List.headD_cons, List.tail_cons] at h
    grind
  obtain ⟨hbr, hp0, hbp⟩ := hchecks
  have hrises := rises_of_badR rs hbr
  have hclimbs := climbs_of_badP ps hbp
  rw [hrl] at hrises
  rw [hpl] at hclimbs
  exact ⟨hrs ▸ hrises, fun i hi => hps ▸ (hclimbs i hi).1, hps ▸ hp0, fun i hi => hps ▸ (hclimbs i hi).2⟩

/-! ### The pressure curve (R56) -/

/-- Up to the first point the curve is the first value. -/
theorem curve_first {p : Profile} {v : Nat} (hv : v ≤ p.rs.getD 0 0) : curve p v = p.ps.getD 0 0 := if_pos hv

/-- A point of r is at least those before it. -/
theorem Profile.Curved.rs_le {p : Profile} (h : p.Curved) {i j : Nat} (hij : i ≤ j) (hj : j ≤ 8) :
    p.rs.getD i 0 ≤ p.rs.getD j 0 := by
  induction j, hij using Nat.le_induction with
  | base => exact Nat.le_refl _
  | succ j _ ih => exact (ih (by omega)).trans (h.rises j (by omega)).le

/-- A number between the first and the last of some lies between two neighbours. -/
theorem exists_step {f : Nat → Nat} {v : Nat} (h0 : f 0 ≤ v) :
    ∀ {n : Nat}, v < f n → ∃ i < n, f i ≤ v ∧ v < f (i + 1) := by
  intro n
  induction n with
  | zero => intro h; omega
  | succ n ih =>
    intro h
    by_cases hn : v < f n
    · obtain ⟨i, hi, hv⟩ := ih hn
      exact ⟨i, by omega, hv⟩
    · exact ⟨n, by omega, by omega, h⟩

/-- From the last point on the curve is the last value. -/
theorem Profile.Curved.curve_last {p : Profile} (h : p.Curved) {v : Nat} (hv : p.rs.getD 8 0 ≤ v) :
    curve p v = p.ps.getD 8 0 := by
  have hsecond : p.rs.getD 0 0 < p.rs.getD 1 0 := h.rises 0 (by omega)
  have := h.rs_le (show 1 ≤ 8 by omega) (Nat.le_refl 8)
  rw [curve, if_neg (by omega), if_pos hv]

section
variable {p : Profile} (h : p.Curved) {i v : Nat} (hi : i < 8) (hlo : p.rs.getD i 0 ≤ v) (hhi : v < p.rs.getD (i + 1) 0)
include h hi hlo hhi

/-- The segment of a phase code is the one whose points it lies between. -/
theorem Profile.Curved.segment_eq : segment p.rs v = i := by
  have hiff : ∀ j < 8, p.rs.getD j 0 ≤ v ↔ j ≤ i := by
    intro j hj
    constructor
    · intro hv
      by_contra hij
      have := h.rs_le (show i + 1 ≤ j by omega) hj.le
      omega
    · intro hij
      exact (h.rs_le hij hi.le).trans hlo
  have hlast : ∀ i < 8, ((List.range 8).filter fun j => decide (j ≤ i)).getLastD 0 = i := by decide
  rw [segment, List.filter_congr (q := fun j => decide (j ≤ i))
    fun j hj => decide_eq_decide.2 (hiff j (List.mem_range.1 hj))]
  exact hlast i hi

/-- The rise of the curve within a segment is none, or at most that of the segment. -/
theorem Profile.Curved.rise_between :
    0 ≤ (((p.ps.getD (i + 1) 0 : Int) - p.ps.getD i 0) * ((v : Int) - p.rs.getD i 0)).tdiv
      ((p.rs.getD (i + 1) 0 : Int) - p.rs.getD i 0)
    ∧ (((p.ps.getD (i + 1) 0 : Int) - p.ps.getD i 0) * ((v : Int) - p.rs.getD i 0)).tdiv
      ((p.rs.getD (i + 1) 0 : Int) - p.rs.getD i 0) ≤ (p.ps.getD (i + 1) 0 : Int) - p.ps.getD i 0 := by
  have hr := h.rises i hi
  have hp : (0 : Int) ≤ (p.ps.getD (i + 1) 0 : Int) - p.ps.getD i 0 := by have := h.climbs i hi; omega
  refine tdiv_between (by omega) ?_ (mul_le_mul_of_nonneg_left (by omega) hp)
  rw [zero_mul]
  exact mul_nonneg hp (by omega)

/-- Between two points the curve is their interpolation. -/
theorem Profile.Curved.curve_between : (curve p v : Int) = p.ps.getD i 0
    + (((p.ps.getD (i + 1) 0 : Int) - p.ps.getD i 0) * ((v : Int) - p.rs.getD i 0)).tdiv
      ((p.rs.getD (i + 1) 0 : Int) - p.rs.getD i 0) := by
  have hrise := (h.rise_between hi hlo hhi).1
  unfold curve
  by_cases hfirst : v ≤ p.rs.getD 0 0
  · have h0 : i = 0 := by
      by_contra hne
      have hsecond : p.rs.getD 0 0 < p.rs.getD 1 0 := h.rises 0 (by omega)
      have := h.rs_le (show 1 ≤ i by omega) hi.le
      omega
    subst h0
    have hv : (v : Int) - p.rs.getD 0 0 = 0 := by omega
    rw [if_pos hfirst, hv]
    simp
  have hlast : ¬p.rs.getD 8 0 ≤ v := by
    have := h.rs_le (show i + 1 ≤ 8 by omega) (Nat.le_refl 8)
    omega
  rw [if_neg hfirst, if_neg hlast, h.segment_eq hi hlo hhi]
  exact Int.toNat_of_nonneg (by omega)

end

/-- The curve's values are at most 16383. -/
theorem Profile.Curved.curve_le {p : Profile} (h : p.Curved) (v : Nat) : curve p v ≤ 16383 := by
  by_cases hfirst : v ≤ p.rs.getD 0 0
  · rw [curve_first hfirst]; exact h.first
  by_cases hlast : p.rs.getD 8 0 ≤ v
  · rw [h.curve_last hlast]; exact h.bounded 7 (by omega)
  obtain ⟨i, hi, hlo, hhi⟩ := exists_step (f := (p.rs.getD · 0)) (by omega) (Nat.lt_of_not_le hlast)
  have hcurve := h.curve_between hi hlo hhi
  have hrise := (h.rise_between hi hlo hhi).2
  have hbound := h.bounded i hi
  omega

/-! ### Smoothing and pressure (R55, R57, R58) -/

/-- Between values up to a bound the smoothing moves within it, by the truncated part of the difference. -/
theorem smoothed_moves {m old out : Nat} (k : Nat) (ho : old ≤ m) (hout : out ≤ m) :
    (smoothed k false old out : Int) = old + ((out : Int) - old).tdiv (2 ^ k : Nat) ∧ smoothed k false old out ≤ m := by
  have hpos : (1 : Int) ≤ (2 ^ k : Nat) := by exact_mod_cast Nat.one_le_two_pow
  obtain ⟨hlo, hhi⟩ := tdiv_between (x := (out : Int) - old) (d := (2 ^ k : Nat)) (lo := -old) (hi := (m : Int) - old)
    (by omega) (by nlinarith) (by nlinarith)
  have heq : (smoothed k false old out : Int) = old + ((out : Int) - old).tdiv (2 ^ k : Nat) :=
    Int.toNat_of_nonneg (by omega)
  exact ⟨heq, by omega⟩

/-- The record of a contact reports S, at least 1; S is loaded by a first contact record and moved by another. -/
theorem Profile.Curved.pressureStage_contact {p : Profile} (h : p.Curved) {s : Nat} (hs : s ≤ 16383) (first : Prop)
    [Decidable first] (v : Nat) :
    let m := pressureStage p true (decide first) v s
    m.1 = max 1 m.2 ∧ m.2 ≤ 16383 ∧ (first → m.2 = curve p v)
      ∧ (¬first → (m.2 : Int) = s + ((curve p v : Int) - s).tdiv (2 ^ p.k : Nat)) := by
  intro m
  obtain ⟨hmoves, hle⟩ := smoothed_moves p.k hs (h.curve_le v)
  refine ⟨rfl, ?_⟩
  by_cases hf : first
  · have hm : m.2 = curve p v := by simp [m, pressureStage, smoothed, hf]
    exact ⟨hm ▸ h.curve_le v, fun _ => hm, fun hn => absurd hf hn⟩
  · have hm : m.2 = smoothed p.k false s (curve p v) := by simp [m, pressureStage, hf]
    exact ⟨hm ▸ hle, fun hy => absurd hy hf, fun _ => hm ▸ hmoves⟩

/-! ### The record -/

section
variable {c : Context} {j : SolverJob} (b : Board) (noMap : Bool)

/-- A record outside CONTACT has no pressure, and S stays (R55). -/
theorem computedRecord_hover (hs : j.yield.state ≠ .contact) :
    (computedRecord b c j noMap).1.pressure = 0 ∧ (computedRecord b c j noMap).2 = c.smooth := by
  have hstage := pressureStage_first j.profile j.yield c.changed j.results.r.toNat c.smooth
  rw [decide_eq_false hs] at hstage
  exact Prod.mk.inj hstage

/-- A record in CONTACT reports S; a first contact record loads S, another moves it (R57, R58). -/
theorem computedRecord_contact (hcurved : j.profile.Curved) (hsmooth : c.smooth ≤ 16383) (hs : j.yield.state = .contact) :
    let first := j.yield.event = .touch ∨ j.yield.event = .proxIn ∨ c.changed = true
    let smooth := (computedRecord b c j noMap).2
    let out := curve j.profile j.results.r.toNat
    (computedRecord b c j noMap).1.pressure = max 1 smooth ∧ smooth ≤ 16383 ∧ (first → smooth = out)
      ∧ (¬first → (smooth : Int) = c.smooth + ((out : Int) - c.smooth).tdiv (2 ^ j.profile.k : Nat)) := by
  intro first smooth out
  have hm := hcurved.pressureStage_contact hsmooth first j.results.r.toNat
  have hstage := pressureStage_first j.profile j.yield c.changed j.results.r.toNat c.smooth
  rw [decide_eq_true hs] at hstage
  rwa [← hstage] at hm

/-- Pressure and S keep within 16383. -/
theorem computedRecord_pressure_le (hcurved : j.profile.Curved) (hsmooth : c.smooth ≤ 16383) :
    (computedRecord b c j noMap).1.pressure ≤ 16383 ∧ (computedRecord b c j noMap).2 ≤ 16383 := by
  by_cases hs : j.yield.state = .contact
  · obtain ⟨hreport, hle, -⟩ := computedRecord_contact b noMap hcurved hsmooth hs
    omega
  · obtain ⟨hreport, hkept⟩ := computedRecord_hover (c := c) b noMap hs
    omega

end

/-- Settles O52: stage by stage, the tilt and the biased tip, the corrected position, and the pressure. -/
theorem recordValuesInRange : Obligations.RecordValuesInRange := by
  intro b c j noMap hb hp hrs hps hsmooth r smooth p f weak table lean tilt inGrid biased tx ty rx ry x y blended v rs
    ps first
  let st := stages b f p
  have hcurved : p.Curved := hp.curved hrs hps
  have hweak : f.weakRing p.prox = true ↔ weak := f.weakRing_iff p.prox
  have hx : (st.x : Int) = x := biasedTip_ring hweak _ _ _ _
  have hy : (st.y : Int) = y := biasedTip_ring hweak _ _ _ _
  have htx : r.tiltX = tilt tx rx := axisTilt_ring hweak _ _
  have hty : r.tiltY = tilt ty ry := axisTilt_ring hweak _ _
  have htilt : ∀ tip ring, -600 ≤ tilt tip ring ∧ tilt tip ring ≤ 600 := by
    intro tip ring
    simp only [tilt]
    split
    · decide
    · split <;> omega
  have hblend : ∀ part : Correction → Int, blend (st.x % 1024) (st.y % 1024) (part (corrAt j.got 0))
      (part (corrAt j.got 1)) (part (corrAt j.got 2)) (part (corrAt j.got 3)) = blended part := by
    intro part
    rw [blend_mod, hx, hy]
    rfl
  have hat : noMap = true → (r.x : Int) = x ∧ (r.y : Int) = y := by
    rintro rfl
    exact ⟨hx, hy⟩
  have hcorrected : noMap = false →
      (r.x : Int) = inGrid b.nx (x + blended (·.cx)) ∧ (r.y : Int) = inGrid b.ny (y + blended (·.cy)) := by
    rintro rfl
    rw [← hblend, ← hblend, ← hx, ← hy]
    exact ⟨toNat_clampInt_grid _ _, toNat_clampInt_grid _ _⟩
  have hrange : r.x < 256 * b.nx ∧ r.y < 256 * b.ny := by
    obtain ⟨hnx, -, hny, -⟩ := hb
    have hnx : 0 < b.nx := by simp only [Board.nx]; omega
    have hny : 0 < b.ny := by simp only [Board.ny]; omega
    cases hm : noMap with
    | true => exact ⟨lt_of_eq_grid hnx (hat hm).1, lt_of_eq_grid hny (hat hm).2⟩
    | false => exact ⟨lt_of_eq_grid hnx (hcorrected hm).1, lt_of_eq_grid hny (hcorrected hm).2⟩
  obtain ⟨hpressure, hsmoothed⟩ := computedRecord_pressure_le b noMap hcurved hsmooth
  obtain ⟨hxlo, hxhi⟩ := htilt tx rx
  obtain ⟨hylo, hyhi⟩ := htilt ty ry
  refine ⟨hrange.1, hrange.2, htx ▸ hxlo, htx ▸ hxhi, hty ▸ hylo, hty ▸ hyhi, hpressure, hsmoothed, hweak, htx, hty,
    tiltLimit_ring hweak _ _ _, ?clip, edge_ring hweak _ _, edge_ring hweak _ _, Iff.rfl, hat, hcorrected,
    computedRecord_hover b noMap, ?contact⟩
  case clip =>
    show ((interpolate b.nx f.tipX).a0 == 65535 || (interpolate b.ny f.tipY).a0 == 65535) = true ↔ _
    rw [Bool.or_eq_true, beq_iff_eq, beq_iff_eq]
    rfl
  case contact =>
    intro hs
    obtain ⟨hreport, -, hloads, hmoves⟩ := computedRecord_contact b noMap hcurved hsmooth hs
    refine ⟨hreport, curve p f.r.toNat, fun hv => ?_, fun hv => ?_, fun i hi hlo hhi => ?_, hloads, hmoves⟩
    · exact congrArg Nat.cast (curve_first (Int.ofNat_le.1 hv))
    · exact congrArg Nat.cast (hcurved.curve_last (Int.ofNat_le.1 hv))
    · exact hcurved.curve_between hi (Int.ofNat_le.1 hlo) (Int.ofNat_lt.1 hhi)

end Sys2Proof.Machine
end

section
/-!
PROOFS. The canonical form of the node memory: the units write a node by storeNode alone, so every command keeps it (R61, R62,
R71, R75).
-/
namespace Sys2Proof.Machine

open Sys2Proof

/-- The part's node memory is in canonical form. What leaves the nodes as they are keeps it by the hypothesis itself. -/
def Device.Canonical (d : Device) : Prop := NodeMem.wf d.map.nodes = true

namespace Device.Canonical

variable {d : Device}

theorem of_nodes {d' : Device} (h : d.Canonical) (hn : d'.map.nodes = d.map.nodes) : d'.Canonical := by
  rw [Device.Canonical, hn]; exact h

/-- A node write keeps the canonical form, at whatever node and with whatever word. -/
theorem store (h : d.Canonical) (i : Nat) (w : NodeWord) :
    Device.Canonical { d with map := { d.map with nodes := storeNode d.map.nodes i w } } := wf_storeNode i w h

/-! ### EVENT, counters and slot writes -/

theorem setEventMask (h : d.Canonical) (event mask : BitVec 4) : (setEventMask event mask d).Canonical := by
  obtain ⟨sent, msg, ht⟩ := testInterrupt_frame d.regs.condition
    { d with regs := { d.regs with event := event, mask := mask } }
  rw [Machine.setEventMask, ht]; exact h

theorem setCause (h : d.Canonical) (c : Cause) : (setCause c d).Canonical := h.setEventMask _ _

theorem sendPending (h : d.Canonical) : (sendPending d).Canonical := by
  unfold Machine.sendPending; split <;> exact h

theorem countOutcome (h : d.Canonical) (o : ReadOutcome) : (countOutcome o d).Canonical := by cases o <;> exact h

theorem noteRead (h : d.Canonical) (node : Nat) (r : NodeRead) (who : Requester) : (noteRead node r who d).Canonical := by
  have hc := h.countOutcome r.outcome
  unfold Machine.noteRead offerLog
  split
  · exact hc
  · split
    · exact hc
    · exact setCause (by exact hc) .mapErr

theorem completePost (h : d.Canonical) (st : Status) (dt : Detail) (fs : List Byte) :
    (completePost st dt fs d).Canonical := by
  unfold Machine.completePost; split <;> exact h

/-! ### The Map Arbiter and its grants -/

theorem grantTo (h : d.Canonical) (who : Requester) : (grantTo who d).Canonical := by
  have hw : (grantWrite d).Canonical := by
    unfold grantWrite
    split
    · split
      · exact h
      · exact h.store _ _
    · exact h
  cases who
  · exact h
  · exact hw
  · exact h

theorem arbitrate (h : d.Canonical) : (arbitrate d).Canonical := by
  unfold Machine.arbitrate
  split
  · exact h
  · split
    · exact h
    · exact h.grantTo _

theorem requestExec (h : d.Canonical) : (requestExec d).Canonical := arbitrate (by exact h)

theorem requestSolver (h : d.Canonical) : (requestSolver d).Canonical := arbitrate (by exact h)

theorem endGrant (h : d.Canonical) : (endGrant d).Canonical := h

theorem setWork (h : d.Canonical) (w : Work) : (setWork w d).Canonical := h

theorem answerScrub (h : d.Canonical) (g : Grant) : (answerScrub g d).Canonical := by
  have hw : NodeMem.wf (if g.word.check.outcome = .corrected then
      storeNode d.map.nodes g.node (NodeWord.fresh g.word.check.cx g.word.check.cy) else d.map.nodes) = true := by
    split
    · exact h.store _ _
    · exact h
  have hn := noteRead (d := { d with map := { d.map with nodes := _ } }) hw g.node g.word.check .scrubber
  exact endGrant (by exact hn)

theorem answerExec (h : d.Canonical) (g : Grant) : (answerExec g d).Canonical := by
  unfold Machine.answerExec
  split
  · exact ((h.noteRead _ _ _).setWork _).endGrant
  · exact ((h.countOutcome _).setWork _).endGrant
  · exact h.endGrant

theorem settleGrant (h : d.Canonical) : (settleGrant d).Canonical := by
  unfold Machine.settleGrant
  split
  · exact h
  · split
    · exact h.answerScrub _
    · exact h.answerExec _
    · exact (h.noteRead _ _ _).endGrant

theorem bulkGrant {d' : Device} (h : d.Canonical) (hg : bulkGrant d = some d') : d'.Canonical := by
  unfold Machine.bulkGrant at hg
  split at hg
  · split at hg
    · obtain rfl := Option.some.inj hg
      unfold bulkMapRead
      simp only
      split
      · exact completePost (by exact h) _ _ _
      · exact requestExec (by exact h)
    · cases hg
  · obtain rfl := Option.some.inj hg
    unfold bulkCounters
    refine completePost ?_ _ _ _
    split <;> exact h
  · cases hg

/-! ### The Delivery Unit -/

theorem placeIn (h : d.Canonical) (c : Capture) (r : Record) : (placeIn c r d).Canonical := by
  unfold Machine.placeIn settleCapture; split <;> exact h

theorem drainGo (q : List Record) : ∀ (b : PerChannel Bool) {d : Device}, d.Canonical → (drainGo q b d).2.Canonical := by
  induction q with
  | nil => intro b d h; exact h
  | cons r rest ih =>
    intro b d h
    unfold Machine.drainGo
    split
    · exact ih _ h
    · split
      · exact ih _ h
      · split
        · exact ih _ (h.placeIn _ _)
        · exact h

theorem drainWalk (h : d.Canonical) : (drainWalk d).Canonical := by
  unfold Machine.drainWalk
  split
  · exact h
  · exact drainGo _ _ h

theorem joinHolding (h : d.Canonical) (r : Record) : (joinHolding r d).Canonical := by
  unfold Machine.joinHolding
  simp only
  split
  · exact setCause (by exact h) _
  · exact h

theorem evict (h : d.Canonical) : (evict d).Canonical := by
  unfold Machine.evict
  split
  · exact h
  · refine setCause ?_ _
    split <;> exact h

theorem deliver (h : d.Canonical) (r : Record) : (deliver r d).Canonical := by
  have ha : (appendHolding r d).Canonical := by
    unfold appendHolding
    split
    · exact h.joinHolding r
    · split
      · exact setCause (by exact h) _
      · exact h.evict.joinHolding r
  unfold Machine.deliver
  split
  · split
    · exact placeIn (by exact h) _ _
    · exact ha
  · exact ha

/-! ### The Link Port -/

theorem stageOut (h : d.Canonical) (t : TraceJob) (f : TraceFrame) (rest : List TraceFrame) :
    (stageOut t f rest d).Canonical := by
  unfold Machine.stageOut; simp only; split <;> exact h

theorem grantOne {d' : Device} (h : d.Canonical) (hg : grantOne d = some d') : d'.Canonical := by
  unfold Machine.grantOne at hg
  split at hg
  · unfold grantBelowDrain at hg
    split at hg
    · obtain rfl := Option.some.inj hg
      unfold enterSlotWrite
      simp only
      split <;> exact h
    · split at hg
      · split at hg
        · obtain rfl := Option.some.inj hg
          exact h.stageOut _ _ _
        · exact h.bulkGrant hg
      · exact h.bulkGrant hg
  · cases hg

theorem grantEntries (n : Nat) : ∀ {d : Device}, d.Canonical → (grantEntries n d).Canonical := by
  induction n with
  | zero => intro d h; exact h
  | succ n ih =>
    intro d h
    have hd : (offerDrain d).Canonical := by
      unfold offerDrain
      split
      · exact h.drainWalk
      · exact h
    unfold Machine.grantEntries
    split
    · next hg => exact ih (hd.grantOne hg)
    · exact hd

theorem grants (h : d.Canonical) : (grants d).Canonical := grantEntries 4 h

theorem faultExec (h : d.Canonical) : (faultExec d).Canonical := by
  have hf : (finishExecGrant d).Canonical := by
    unfold finishExecGrant
    split
    · split
      · exact h.answerExec _
      · exact h
    · exact h
  unfold Machine.faultExec
  split
  · exact h
  · unfold failExec
    split
    · exact hf
    · exact arbitrate (completePost (by exact hf) _ _ _)

theorem enterHalted (h : d.Canonical) : (enterHalted d).Canonical := by
  have he : (Machine.faultExec (faultSweep
      { d with link := { d.link with halted := true, inFlight := none, waiting := [] } })).Canonical :=
    faultExec (by exact h)
  refine grants ?_
  unfold faultTrace
  split <;> exact he

theorem raiseFault (h : d.Canonical) (cls : FaultClass) (site : Site) (slot : Option (Fin 32)) :
    (raiseFault cls site slot d).Canonical := by
  refine enterHalted (setCause ?_ .fault)
  unfold recordFault
  split <;> exact h

theorem raiseBlocked (h : d.Canonical) (site : Site) (slot : Option (Fin 32)) : (raiseBlocked site slot d).Canonical := by
  refine raiseFault ?_ _ _ _
  unfold blockedClass
  split
  · exact h
  · split <;> exact h

theorem settleLink (h : d.Canonical) : (settleLink d).Canonical := by
  unfold Machine.settleLink issueHead
  split
  · exact h.grants
  · split
    · exact h.grants
    · split
      · exact h.grants
      · exact h.grants.raiseBlocked _ _

theorem pumpReads (h : d.Canonical) : (pumpReads d).Canonical := by
  unfold Machine.pumpReads
  split
  · exact h
  · split
    · exact h
    · unfold issueRead
      split
      · exact h
      · exact raiseBlocked (by exact h) _ _

theorem requestRead (h : d.Canonical) (r : ReadReq) : (requestRead r d).Canonical := by
  unfold Machine.requestRead
  split
  · exact h
  · exact pumpReads (by exact h)

theorem afterRead (h : d.Canonical) : (afterRead d).Canonical := h.pumpReads.settleLink

/-! ### The Scan Engine and the Channel Tracker -/

theorem produce (h : d.Canonical) (r : Record) : (produce r d).Canonical := (deliver (by exact h) r).settleLink

theorem finishStep (h : d.Canonical) (ch : Channel) (f : FrameResults) (prox : Nat) (ev : RecEvent) (pressure : Nat) :
    (finishStep ch f prox ev pressure d).Canonical := by
  refine settleLink ?_
  unfold receiveTraceFrame
  split
  · exact h
  · split
    · exact h
    · simp only
      split
      · split
        · exact h
        · split <;> exact h
      · split <;> exact h

theorem finishJob (h : d.Canonical) (j : SolverJob) (noMap : Bool) : (finishJob j noMap d).Canonical :=
  (produce (by exact h) _).finishStep _ _ _ _ _

theorem stepChannel (h : d.Canonical) (ch : Channel) (f : FrameResults) : (stepChannel ch f d).1.Canonical := by
  unfold Machine.stepChannel
  extract_lets c0 c1 d1 res c2
  have h1 : d1.Canonical := by simp only [d1]; split <;> exact h
  have hk : ∀ c, (d1.setCtx ch c).Canonical := fun _ => h1
  clear_value d1 res c2
  split
  · dsimp only
    exact (hk _).finishStep _ _ _ _ _
  · have hp : (produceProxOut ch f.timeTag f.slipped (d1.setCtx ch c2)).Canonical := produce (hk _) _
    dsimp only
    exact finishStep (by exact hp) _ _ _ _ _
  · split
    · dsimp only
      exact (hk _).finishStep _ _ _ _ _
    · extract_lets job d2
      split
      · dsimp only
        exact (hk _).finishJob _ _
      · exact hk _

theorem toIdle (h : d.Canonical) (ch : Channel) : (toIdle ch d).Canonical := by
  unfold Machine.toIdle
  split
  · exact h
  · refine settleLink ?_
    unfold traceChannelOff
    split
    · exact h
    · split
      · exact h
      · split <;> exact h

theorem leaveTracking (h : d.Canonical) (ch : Channel) (tag : Micros) (slip : Bool) :
    (leaveTracking ch tag slip d).Canonical := by
  unfold Machine.leaveTracking
  split
  · exact h.produce _
  · exact h

theorem disableChannel (h : d.Canonical) (ch : Channel) (want : Bool) (tag : Micros) :
    (disableChannel ch want tag d).Canonical := by
  unfold Machine.disableChannel
  split
  · exact h
  · exact (h.leaveTracking _ _ _).toIdle _

theorem applySetup (h : d.Canonical) (slot : Fin 32) (p : ScanSetupParams) (tag : Micros) (running : Bool) :
    (applySetup slot p tag running d).Canonical := by
  have ha : (applySettings p tag running d).Canonical := by
    refine (disableChannel ?_ .a _ tag).disableChannel .b _ tag
    split <;> exact h
  exact settleLink ha

theorem applyWaiting (h : d.Canonical) (tag : Micros) (running : Bool) : (applyWaiting tag running d).Canonical := by
  unfold Machine.applyWaiting
  split
  · exact applySetup (by exact h) _ _ _ _
  · exact h

theorem startFrame (h : d.Canonical) : (startFrame d).Canonical := by
  rw [startFrame_eq]
  exact h.applyWaiting d.clock true

theorem stopEngine (h : d.Canonical) (f : Frame) : (stopEngine f d).Canonical := by
  unfold Machine.stopEngine
  extract_lets left idle
  have hl : left.Canonical := (h.leaveTracking .a f.timeTag f.slipped).leaveTracking .b f.timeTag f.slipped
  have hi : idle.Canonical := (hl.toIdle .a).toIdle .b
  clear_value idle
  exact applyWaiting (by exact hi) _ _

theorem runSteps (todo : List Channel) (f : Frame) (realign : Bool) :
    ∀ {d : Device}, d.Canonical → (runSteps todo f realign d).1.Canonical := by
  induction todo with
  | nil => intro d h; exact h
  | cons ch rest ih =>
    intro d h
    unfold Machine.runSteps
    split
    · exact ih h
    · simp only
      split
      · exact ih (h.stepChannel _ _)
      · exact requestSolver (by exact h.stepChannel _ _)

theorem goBoundary (h : d.Canonical) (todo : List Channel) (f : Frame) (realign : Bool) :
    (goBoundary todo f realign d).Canonical := by
  have hr := runSteps todo f realign h
  unfold Machine.goBoundary
  simp only
  split
  · unfold closeBoundary
    extract_lets run d1 d2
    have h2 : d2.Canonical := by
      simp only [d2]
      split
      · exact startFrame (by exact hr)
      · exact stopEngine (by exact hr) f
    clear_value d2
    split
    · split <;> exact h2
    · exact h2
  · exact hr

theorem takeArrival (h : d.Canonical) (t : Nat) : (takeArrival t d).Canonical := by
  unfold Machine.takeArrival
  split
  · split
    · exact goBoundary (by exact h) _ _ _
    · unfold measureArrival; simp only; split <;> exact h
  · exact h

theorem takeArrivals (ts : List Nat) : ∀ (base : Nat) {d : Device}, d.Canonical → (takeArrivals base ts d).Canonical := by
  induction ts with
  | nil => intro base d h; exact h
  | cons t ts ih =>
    intro base d h
    unfold Machine.takeArrivals
    simp only
    split
    · exact h.takeArrival _
    · exact ih _ (h.takeArrival _)

theorem afterBoundary (h : d.Canonical) : (afterBoundary d).Canonical := by
  unfold Machine.afterBoundary
  split
  · exact h
  · exact takeArrivals _ _ (by exact h)

/-! ### Sweeps -/

theorem startSweep (h : d.Canonical) : (startSweep d).Canonical := by
  unfold Machine.startSweep
  simp only
  split
  · exact requestRead (by exact h) _
  · exact h

theorem endSweep (h : d.Canonical) : (endSweep d).Canonical := by
  unfold Machine.endSweep
  simp only
  split
  · exact startSweep (by exact h)
  · exact h

theorem sweepDone (h : d.Canonical) : (sweepDone d).Canonical := by
  unfold Machine.sweepDone
  split
  · exact h
  · exact h.endSweep

theorem sweepEntryLeft (h : d.Canonical) : (sweepEntryLeft d).Canonical := by
  unfold Machine.sweepEntryLeft
  split
  · split
    · split
      · exact requestRead (by exact h) _
      · exact h
    · exact h
  · exact h

theorem rejectSlot (h : d.Canonical) (m : SlotMark) (dt : Detail) : (rejectSlot m dt d).Canonical := settleLink (by exact h)

/-- A slot that is taken keeps the canonical form, if the handing on of its post does. -/
theorem takeSlot {handOn : Device → Device} (h : d.Canonical) (hf : ∀ {x : Device}, x.Canonical → (handOn x).Canonical)
    (m : SlotMark) : (takeSlot m handOn d).Canonical := settleLink (by exact hf (grants (by exact h)))

/-! ### The Command Executor -/

theorem finishMapLoad (h : d.Canonical) (w : MapLoadWork) : (finishMapLoad w d).Canonical := by
  refine completePost ?_ _ _ _
  split <;> exact h

theorem beginMapLoad (h : d.Canonical) (slot : Fin 32) (p : MapParams) : (beginMapLoad slot p d).Canonical := by
  have hc : (if p.flags.getLsbD 0 then clearMap d else d).Canonical := by split <;> exact h
  unfold Machine.beginMapLoad
  split
  · exact h
  · simp only
    split
    · exact finishMapLoad (by exact hc) _
    · exact requestRead (by exact hc) _

theorem beginMapRead (h : d.Canonical) (slot : Fin 32) (p : MapParams) : (beginMapRead slot p d).Canonical := by
  unfold Machine.beginMapRead
  split
  · exact h
  · exact requestExec (by exact h)

theorem beginProfile (h : d.Canonical) (slot : Fin 32) (p : ProfileParams) : (beginProfile slot p d).Canonical := by
  have hread : ∀ isDefault, (startBlockRead slot isDefault p d).Canonical := fun isDefault => requestRead (by exact h) _
  unfold Machine.beginProfile
  split
  · unfold beginProfileLoad
    split
    · exact h
    · split
      · exact h
      · split
        · exact h
        · exact hread false
  · unfold beginProfileRemove
    split
    · exact h
    · split <;> exact h
  · exact h
  · unfold beginProfileDefault
    split
    · exact h
    · exact hread true
  · exact h

theorem cancelEach (caps : List Capture) : ∀ {d : Device}, d.Canonical → (cancelEach caps d).Canonical := by
  induction caps with
  | nil => intro d h; exact h
  | cons c rest ih => intro d h; exact ih (by exact h)

theorem answerCancel {r : Device × Nat} (h : r.1.Canonical) (slot : Fin 32) : (answerCancel slot r).Canonical := h

theorem cancelTraceAt (h : d.Canonical) (target : Fin 32) : (cancelTraceAt target d).1.Canonical := by
  unfold Machine.cancelTraceAt
  split
  · split <;> exact h
  · exact h

theorem cancelBySlot (h : d.Canonical) (slot target : Fin 32) : (cancelBySlot slot target d).Canonical := by
  unfold Machine.cancelBySlot
  split
  · exact answerCancel (by exact h) _
  · have hs : (Machine.settleLink (setCurrent slot (.cancelSlot target) d)).Canonical := settleLink (by exact h)
    unfold cancelSecond
    split
    · exact answerCancel (cancelTraceAt (by exact hs) _) _
    · exact hs

theorem beginCancel (h : d.Canonical) (slot : Fin 32) (p : CancelParams) : (beginCancel slot p d).Canonical := by
  unfold Machine.beginCancel
  split
  · split
    · exact answerCancel (cancelEach _ h) _
    · exact h
  · refine answerCancel ?_ _
    unfold cancelHeldTrace
    split <;> exact h
  · split
    · exact h.cancelBySlot _ _
    · exact h
  · exact h

theorem beginScanSetup (h : d.Canonical) (slot : Fin 32) (p : ScanSetupParams) : (beginScanSetup slot p d).Canonical := by
  unfold Machine.beginScanSetup
  split
  · exact h
  · split
    · exact h.applySetup _ _ _ _
    · exact h

theorem beginPost (h : d.Canonical) (slot : Fin 32) (p : Post) : (beginPost slot p d).Canonical := by
  cases p with
  | profile q => exact h.beginProfile slot q
  | mapLoad q => exact h.beginMapLoad slot q
  | mapRead q => exact h.beginMapRead slot q
  | scanSetup q => exact h.beginScanSetup slot q
  | counters q => show (beginCounters slot q d).Canonical; unfold beginCounters; split <;> exact h
  | cancel q => exact h.beginCancel slot q
  | clockSet v => exact h
  | capture q => exact h
  | trace q => exact h

theorem continueMapLoad (h : d.Canonical) : (continueMapLoad d).Canonical := by
  unfold Machine.continueMapLoad
  split
  · split
    · exact requestExec (by exact h)
    · split
      · exact h.finishMapLoad _
      · exact h.requestRead _
  · exact h

theorem continueMapRead (h : d.Canonical) : (continueMapRead d).Canonical := by
  unfold Machine.continueMapRead
  split
  · split
    · exact h.arbitrate
    · exact h.requestExec
  · exact h

theorem profileBlock (h : d.Canonical) (isDefault : Bool) (key : Half) (bytes : List Byte) :
    (profileBlock isDefault key bytes d).Canonical := by
  unfold Machine.profileBlock
  split
  · exact h.completePost _ _ _
  · unfold applyProfile
    split <;> exact completePost (by exact h) _ _ _

/-! ### The posts a sweep finds -/

theorem handlePost (h : d.Canonical) (m : SlotMark) (p : Post) : (handlePost m p d).Canonical := by
  unfold Machine.handlePost
  split
  · unfold handleCapture
    split
    · exact h.rejectSlot _ _
    · exact h.takeSlot (fun hx => drainWalk (by exact hx)) _
  · unfold handleTrace
    split
    · exact h.rejectSlot _ _
    · exact h.takeSlot (fun hx => by exact hx) _
  · exact h.takeSlot (fun hx => hx.beginPost _ _) _

theorem settleBody {d' : Device} (h : d.Canonical) {m : SlotMark} {p : Option Post} (hs : settleBody m p d = some d') :
    d'.Canonical := by
  unfold Machine.settleBody at hs
  split at hs
  · cases hs
  · split at hs
    · unfold settlePost at hs
      split at hs
      · cases hs
      · split at hs
        · obtain rfl := Option.some.inj hs
          exact h.rejectSlot _ _
        · obtain rfl := Option.some.inj hs
          exact h.handlePost _ _
    · obtain rfl := Option.some.inj hs
      exact h.rejectSlot _ _

theorem walk (slots : List (Fin 32)) : ∀ {d : Device}, d.Canonical → (walk slots d).Canonical := by
  induction slots with
  | nil => intro d h; exact h.sweepDone
  | cons slot rest ih =>
    intro d h
    unfold Machine.walk
    split
    · exact h
    · split
      · exact h.endSweep
      · split
        · exact ih h
        · simp only
          split
          · exact ih (h.rejectSlot _ _)
          · exact (h.rejectSlot _ _).sweepDone
        · exact requestRead (by exact h) _

theorem bodyComplete (h : d.Canonical) (post : Byte → Option Post) (notify : Bool) :
    (bodyComplete post notify d).Canonical := by
  unfold Machine.bodyComplete
  split
  · exact h
  · split
    · simp only
      unfold sweepGoesOn
      split
      · exact walk _ h
      · next hs =>
        split
        · exact walk _ (h.settleBody hs)
        · exact (h.settleBody hs).sweepDone
    · exact h

theorem postFound (h : d.Canonical) (slot : Fin 32) (notify : Bool) (p : Post) : (postFound slot notify p d).Canonical := by
  unfold Machine.postFound
  split
  · exact (bodyComplete (by exact h) _ _).afterRead
  · exact h

/-! ### Resets and CONTROL -/

theorem softReset (h : d.Canonical) : (softReset d).Canonical := h.settleGrant

theorem linkReset (h : d.Canonical) (word : BitVec 16) (inputs : LinkInputs) : (linkReset word inputs d).Canonical :=
  h.settleGrant

theorem runEdge (h : d.Canonical) (was : Bool) : (runEdge was d).Canonical := by
  unfold Machine.runEdge
  split
  · exact startFrame (by exact h)
  · exact h

theorem intakeEdge (h : d.Canonical) (was : Bool) : (intakeEdge was d).Canonical := by
  unfold Machine.intakeEdge
  split
  · unfold sweepIntakeOff
    split
    · exact h
    · split
      · exact h
      · split <;> exact h
      · exact h
  · exact h

theorem controlWrite (h : d.Canonical) (w : BitVec 32) : (controlWrite w d).Canonical := by
  have hf : (controlFields w d).Canonical := setEventMask (by exact h) _ _
  have he := (hf.runEdge d.regs.run).intakeEdge d.regs.intake
  unfold Machine.controlWrite
  extract_lets wasRun wasIntake edged
  split
  · unfold resumeAct
    split
    · exact settleLink (drainWalk (by exact he))
    · exact he
  · exact he

theorem promptWrite (h : d.Canonical) : (promptWrite d).Canonical := by
  unfold Machine.promptWrite
  split
  · split
    · exact h
    · exact h.startSweep
  · exact h

theorem baseWrite (h : d.Canonical) (t : TableBaseAccess) : (baseWrite t d).Canonical := by
  unfold Machine.baseWrite; split <;> exact h

theorem writeAccess (h : d.Canonical) (offset width : Nat) (v : BitVec 64) : (writeAccess offset width v d).Canonical := by
  unfold Machine.writeAccess
  split
  · exact h.baseWrite _
  · split
    · unfold writeWord
      split
      · unfold controlAny
        split
        · exact h.softReset
        · exact h.controlWrite _
      · exact h.setEventMask _ _
      · exact h.promptWrite
      · exact h
      · exact h
      · exact h
      · exact h.baseWrite _
      · exact h.baseWrite _
      · exact h
    · exact h

/-! ### Events of the Scan Engine and of the map port -/

theorem frameExpiry (h : d.Canonical) : (frameExpiry d).Canonical := by
  unfold Machine.frameExpiry
  split
  · split
    · exact (goBoundary (by exact h) _ _ _).afterBoundary.settleLink
    · exact h
  · exact h

theorem windowDone (h : d.Canonical) (ch : Channel) (res : WindowResult) : (windowDone ch res d).Canonical := by
  unfold Machine.windowDone; split <;> exact h

theorem solverAnswered (h : d.Canonical) (g : Grant) (b : Boundary) : (solverAnswered g b d).Canonical := by
  have hn := (h.noteRead g.node g.word.check .solver).endGrant
  unfold Machine.solverAnswered
  extract_lets r j noted
  split
  · exact requestSolver (by exact hn)
  · exact ((hn.arbitrate.finishJob _ _).goBoundary _ _ _).afterBoundary.settleLink

theorem solverRead (h : d.Canonical) : (solverRead d).Canonical := by
  unfold Machine.solverRead
  split
  · split
    · split
      · exact h.solverAnswered _ _
      · exact h
    · exact h
  · exact h

theorem syncEdge (h : d.Canonical) (e : Edge) : (syncEdge e d).Canonical := by
  unfold Machine.syncEdge
  split
  · split
    · exact (h.takeArrival _).afterBoundary.settleLink
    · exact h
    · exact h
  · exact h

theorem lossExpiry (h : d.Canonical) : (lossExpiry d).Canonical := by
  unfold Machine.lossExpiry; split <;> exact h

theorem scrubExpiry (h : d.Canonical) : (scrubExpiry d).Canonical := by
  unfold Machine.scrubExpiry scrubRequest
  split
  · split
    · exact arbitrate (of_nodes h rfl)
    · exact of_nodes h rfl
  · exact h

theorem scrubGrant (h : d.Canonical) : (scrubGrant d).Canonical := by
  unfold Machine.scrubGrant
  split
  · split
    · exact (h.answerScrub _).arbitrate
    · exact h
  · exact h

theorem loadGrant (h : d.Canonical) : (loadGrant d).Canonical := by
  unfold Machine.loadGrant
  split
  · split
    · split
      · exact (h.answerExec _).continueMapLoad.arbitrate.settleLink
      · exact h
    · exact h
  · exact h

theorem readGrant (h : d.Canonical) : (readGrant d).Canonical := by
  unfold Machine.readGrant
  split
  · split
    · split
      · exact (h.answerExec _).continueMapRead.arbitrate.settleLink
      · exact h
    · exact h
  · exact h

theorem flipBit (h : d.Canonical) (node : Fin 1024) (b : Fin 39) : (flipBit node b d).Canonical := h.store _ _

theorem passTime (h : d.Canonical) (us : Nat) : (passTime us d).Canonical := by
  rw [Machine.passTime, ageCaptures_eq]; exact h

/-! ### Events of the Link Port and of the Post Intake -/

theorem sweepExpiry (h : d.Canonical) : (sweepExpiry d).Canonical := by
  unfold Machine.sweepExpiry
  split
  · dsimp only
    split
    · exact startSweep (of_nodes h rfl)
    · exact of_nodes h rfl
  · exact h

theorem stripArrived (h : d.Canonical) (bytes : List Byte) : (stripArrived bytes d).Canonical := by
  unfold Machine.stripArrived stripComplete
  split
  · refine afterRead ?_
    split
    · exact h
    · exact walk _ (by exact h)
  · exact h

theorem bodyArrived (h : d.Canonical) (bytes : List Byte) : (bodyArrived bytes d).Canonical := by
  unfold Machine.bodyArrived
  split
  · exact (bodyComplete (by exact h) _ _).afterRead
  · exact h

theorem blockArrived (h : d.Canonical) (bytes : List Byte) : (blockArrived bytes d).Canonical := by
  unfold Machine.blockArrived
  split
  · split
    · exact (profileBlock (by exact h) _ _ _).afterRead
    · exact h
  · exact h

theorem pieceArrived (h : d.Canonical) (bytes : List Byte) : (pieceArrived bytes d).Canonical := by
  unfold Machine.pieceArrived
  split
  · split
    · exact (requestExec (by exact h)).afterRead
    · exact h
  · exact h

theorem idleExpiry (h : d.Canonical) (slot : Fin 32) : (idleExpiry slot d).Canonical := by
  unfold Machine.idleExpiry
  split
  · split
    · exact settleLink (by exact h)
    · exact h
  · exact h

theorem acceptHead (h : d.Canonical) : (acceptHead d).Canonical := by
  unfold Machine.acceptHead doneCause
  split
  · exact h
  · split
    · refine (sweepEntryLeft ?_).settleLink
      split
      · exact setCause (by exact h) _
      · exact h
    · exact h

theorem readFault (h : d.Canonical) (cls : FaultClass) : (readFault cls d).Canonical := by
  unfold Machine.readFault
  split
  · exact raiseFault (by exact h) _ _ _
  · exact h

theorem readTimerExpiry (h : d.Canonical) : (readTimerExpiry d).Canonical := by
  unfold Machine.readTimerExpiry
  split
  · split
    · exact (h.readFault _).settleLink
    · exact h
  · exact h

theorem linkFalls (h : d.Canonical) : (linkFalls d).Canonical := by
  unfold Machine.linkFalls downFault
  split
  · split
    · exact h
    · split
      · exact readFault (by exact h) _
      · split
        · exact h
        · exact raiseFault (by exact h) _ _ _
  · exact h

/-! ### Every command -/

/-- A command whose effect on the part keeps the canonical form leaves it in the next state. -/
theorem of_effect {s t : State} {f : Device → Device} (h : (f s.dev).Canonical) (ht : effect f s = .next t) :
    t.dev.Canonical := by
  obtain rfl := Host.Outcome.next.inj ht
  exact h

/-- Every command keeps the node memory in canonical form. -/
theorem exec {s t : State} (h : s.dev.Canonical) (i : Instr) (ht : Machine.exec i s = .next t) : t.dev.Canonical := by
  cases i with
  | powerOn word inputs => exact of_effect (f := powerOnReset word inputs) wf_initial ht
  | linkReset word inputs => exact of_effect (h.linkReset word inputs) ht
  | softReset w => exact of_effect h.softReset ht
  | runSet w => exact of_effect (h.controlWrite _) ht
  | runClear w => exact of_effect (h.controlWrite _) ht
  | intakeSet w => exact of_effect (h.controlWrite _) ht
  | intakeClear w => exact of_effect (h.controlWrite _) ht
  | batch w => exact of_effect (h.controlWrite _) ht
  | maskWrite w => exact of_effect (h.controlWrite _) ht
  | resume w => exact of_effect (h.controlWrite _) ht
  | prompt v => exact of_effect h.promptWrite ht
  | eventWrite v => exact of_effect (f := eventClear v) (h.setEventMask _ _) ht
  | faultWrite word v => exact of_effect (f := faultClear) h ht
  | maplogWrite v => exact of_effect (f := maplogClear) h ht
  | tableBaseWrite a => exact of_effect (h.baseWrite a) ht
  | discardedRegisterWrite offset width v => exact of_effect (h.writeAccess _ _ v) ht
  | frameBoundary => exact of_effect h.frameExpiry ht
  | windowResult ch res => exact of_effect (h.windowDone ch res) ht
  | solverNodeRead => exact of_effect h.solverRead ht
  | idleTimeout slot => exact of_effect (h.idleExpiry slot) ht
  | syncArrival edge => exact of_effect (h.syncEdge edge) ht
  | lossTimerExpiry => exact of_effect h.lossExpiry ht
  | scrubTimerExpiry => exact of_effect h.scrubExpiry ht
  | scrub => exact of_effect h.scrubGrant ht
  | mapLoadNodeWrite => exact of_effect h.loadGrant ht
  | mapReadNodeRead => exact of_effect h.readGrant ht
  | sweepTimerExpiry => exact of_effect h.sweepExpiry ht
  | stripReadComplete bytes => exact of_effect (h.stripArrived bytes) ht
  | bodyReadComplete bytes => exact of_effect (h.bodyArrived bytes) ht
  | capture slot notify p => exact of_effect (h.postFound slot notify _) ht
  | trace slot notify p => exact of_effect (h.postFound slot notify _) ht
  | scanSetup slot notify p => exact of_effect (h.postFound slot notify _) ht
  | profileLoad slot notify key source => exact of_effect (h.postFound slot notify _) ht
  | profileRemove slot notify key => exact of_effect (h.postFound slot notify _) ht
  | profileClear slot notify => exact of_effect (h.postFound slot notify _) ht
  | profileDefault slot notify key source => exact of_effect (h.postFound slot notify _) ht
  | profileBlockReadComplete bytes => exact of_effect (h.blockArrived bytes) ht
  | mapLoad slot notify p => exact of_effect (h.postFound slot notify _) ht
  | mapPieceReadComplete bytes => exact of_effect (h.pieceArrived bytes) ht
  | mapRead slot notify p => exact of_effect (h.postFound slot notify _) ht
  | counters slot notify p => exact of_effect (h.postFound slot notify _) ht
  | cancelMask slot notify mask => exact of_effect (h.postFound slot notify _) ht
  | cancelTrace slot notify => exact of_effect (h.postFound slot notify _) ht
  | cancelSlot slot notify target => exact of_effect (h.postFound slot notify _) ht
  | clockSet slot notify value => exact of_effect (h.postFound slot notify _) ht
  | writeAccepted => exact of_effect h.acceptHead ht
  | readError => exact of_effect (f := readFails .readError) (h.readFault _).settleLink ht
  | readTimeout => exact of_effect h.readTimerExpiry ht
  | linkDown => exact of_effect h.linkFalls ht
  | linkUp => exact of_effect (f := linkRises) (sendPending (by exact h)).settleLink ht
  | busMasteringChange on => exact of_effect (f := masteringChange on) (sendPending (by exact h)).settleLink ht
  | mapBitFlip node bit => exact of_effect (h.flipBit node bit) ht
  | strokeClockTick us => exact of_effect (h.passTime us) ht
  | staleReadCompletion bytes => exact of_effect (f := staleData bytes) h ht
  | messageInterruptEnableChange on addr data => exact of_effect (f := msiChange on addr data) (sendPending (by exact h)) ht

end Device.Canonical

/-- Settles O57: every command changes the node memory through storeNode alone. -/
theorem nodesStayCanonical : Obligations.NodesStayCanonical := by
  intro s t ht h
  unfold step at ht
  split at ht
  · obtain rfl := Host.Outcome.next.inj ht
    exact h
  · next c rest hp => exact Device.Canonical.exec (s := { s with pending := rest }) h c ht

end Sys2Proof.Machine
end

section
/-!
PROOFS. The writes that clear EVENT, the Fault Record and the Map Error Log, and the registers' fields (R69, R164, R168, R173
to R175, R178, R179).
-/
namespace Sys2Proof.Machine

open Sys2Proof

/-- The next state of a command, by its effect on the part. -/
theorem effect_next {f : Device → Device} {s : State} {d : Device} (h : f s.dev = d) :
    effect f s = .next { s with dev := d } := by subst h; rfl

/-! ### EVENT, FAULT and MAPLOG cleared -/

/-- The interrupt condition does not come to hold by clearing causes (R179, R180). -/
theorem condition_of_cleared {event mask : BitVec 4} (v : BitVec 4) (h : (event &&& ~~~v) &&& mask ≠ 0) :
    event &&& mask ≠ 0 := by
  intro h0
  have hc : (event &&& ~~~v) &&& mask = (event &&& mask) &&& ~~~v := by ac_rfl
  simp [hc, h0] at h

/-- EVENT cleared: no message is sent, and one pending is dropped where the condition stops holding (R179, R180). -/
theorem eventClear_eq (v : BitVec 32) (d : Device) :
    eventClear v d = { d with regs := { d.regs with
      event := d.regs.event &&& ~~~v.extractLsb' 0 4
      msgPending := d.regs.msgPending && ((d.regs.event &&& ~~~v.extractLsb' 0 4) &&& d.regs.mask != 0) } } := by
  unfold eventClear setEventMask testInterrupt
  by_cases h : (d.regs.event &&& ~~~v.extractLsb' 0 4) &&& d.regs.mask = 0
  · simp [Registers.condition, h]
  · have hheld : d.regs.condition = true := by simpa [Registers.condition] using condition_of_cleared _ h
    rw [hheld, if_pos rfl, if_pos (by simpa [Registers.condition] using h)]
    simpa using fun _ => h

theorem readRegister_fault_none {d : Device} (h : d.link.faultRecord = none) :
    d.readRegister 0x14 = 0 ∧ d.readRegister 0x1C = 0 := by
  simp [Device.readRegister, Device.faultReg, Device.faultTimeReg, h]

theorem readRegister_maplog_none {d : Device} (h : d.map.log = none) : d.readRegister 0x18 = 0 := by
  simp [Device.readRegister, Device.maplogReg, h]

/-- Settles O13. -/
theorem eventAndRecordWrites : Obligations.EventAndRecordWrites := by
  intro s word v left
  refine ⟨?event, ⟨_, rfl, rfl, ?fault⟩, ⟨_, rfl, rfl, ?maplog⟩⟩
  case event => exact effect_next (eventClear_eq v s.dev)
  case fault =>
    obtain ⟨hfields, htime⟩ := readRegister_fault_none (d := faultClear s.dev) rfl
    exact ⟨hfields, htime, rfl, rfl⟩
  case maplog => exact ⟨readRegister_maplog_none (d := maplogClear s.dev) rfl, rfl⟩

/-! ### The fields of IDENT, STATUS, FAULT and MAPLOG -/

@[simp] theorem bit_eq_one_iff (b : Bool) : bit b = 1 ↔ b = true := by cases b <;> simp [bit]

theorem bit_le_one (b : Bool) : bit b ≤ 1 := by cases b <;> simp [bit]

/-- The fields of IDENT, for a grid within the limits of R1 (R174, R175). -/
theorem identReg_fields {d : Device} (h : Board.Valid d.board) :
    d.identReg % 2 ^ 16 = 0x3280 ∧ d.identReg / 2 ^ 16 % 2 ^ 4 = 2 ∧ d.identReg / 2 ^ 20 % 2 ^ 6 = d.board.nx4
    ∧ d.identReg / 2 ^ 26 % 2 ^ 5 = d.board.ny4 ∧ d.identReg / 2 ^ 31 = bit d.board.bFitted := by
  obtain ⟨-, hx, -, hy⟩ := h
  have hb := bit_le_one d.board.bFitted
  simp only [Device.identReg, Nat.reducePow, Nat.reduceMul, Nat.reduceAdd]
  omega

/-- A field that shows a code tells what it is the code of. -/
theorem code_iff {α : Type} {code : α → Nat} (hinj : Function.Injective code) {v n : Nat} {a b : α} (hv : v = code a)
    (hn : code b = n) : v = n ↔ a = b := by
  rw [hv]; exact hinj.eq_iff' hn

theorem SyncState.code_injective : Function.Injective SyncState.code := by
  intro a b; cases a <;> cases b <;> simp [SyncState.code]

theorem FaultClass.code_injective : Function.Injective FaultClass.code := by
  intro a b; cases a <;> cases b <;> simp [FaultClass.code]

theorem Site.code_injective : Function.Injective Site.code := by
  intro a b; cases a <;> cases b <;> simp [Site.code]

theorem Requester.code_injective : Function.Injective Requester.code := by
  intro a b; cases a <;> cases b <;> simp [Requester.code]

theorem Device.traceCode_none {d : Device} : d.traceCode = 0 ↔ d.trace = none := by
  unfold Device.traceCode
  cases d.trace with
  | none => simp
  | some t => by_cases hc : t.capturing = true <;> simp [hc]

theorem Device.traceCode_some {d : Device} {t : TraceJob} (h : d.trace = some t) :
    d.traceCode = if t.capturing then 2 else 1 := by
  simp [Device.traceCode, h]

theorem Device.traceCode_le (d : Device) : d.traceCode ≤ 2 := by
  unfold Device.traceCode
  split
  · omega
  · split <;> omega

theorem SyncState.code_le (t : SyncState) : t.code ≤ 3 := by cases t <;> decide

/-- The fields of STATUS, for queues within their bounds (R174, R178). -/
theorem statusReg_fields {d : Device} (h : d.Bounded) :
    d.statusReg % 2 = bit d.link.halted ∧ d.statusReg / 2 % 2 = bit (d.map.state == .ready)
    ∧ d.statusReg / 2 ^ 2 % 4 = d.traceCode ∧ d.statusReg / 2 ^ 4 % 2 = bit d.exec.isSome
    ∧ d.statusReg / 2 ^ 5 % 2 ^ 3 = 0 ∧ d.statusReg / 2 ^ 14 % 2 ^ 2 = 0 ∧ d.statusReg / 2 ^ 23 % 2 = 0
    ∧ d.statusReg / 2 ^ 8 % 2 ^ 5 = d.delivery.captures.length
    ∧ d.statusReg / 2 ^ 13 % 2 = bit (d.delivery.captures.length == 16)
    ∧ d.statusReg / 2 ^ 16 % 2 ^ 7 = d.delivery.holding.length ∧ d.statusReg / 2 ^ 24 = d.scan.tracker.code := by
  have hholding := h.holding
  have hcaptures := h.captures
  have hhalted := bit_le_one d.link.halted
  have hready := bit_le_one (d.map.state == .ready)
  have hexec := bit_le_one d.exec.isSome
  have hfull := bit_le_one (d.delivery.captures.length == 16)
  have htrace := d.traceCode_le
  have htracker := d.scan.tracker.code_le
  simp only [Device.statusReg, Nat.reducePow]
  omega

theorem FaultClass.code_le (c : FaultClass) : c.code ≤ 4 := by cases c <;> decide

theorem Site.code_le (s : Site) : s.code ≤ 3 := by cases s <;> decide

theorem Requester.code_le (r : Requester) : r.code ≤ 2 := by cases r <;> decide

/-- The fields of a held fault (R164, R174). -/
theorem faultReg_fields {d : Device} {e : FaultEntry} (h : d.link.faultRecord = some e) :
    d.faultReg % 2 = 1 ∧ d.faultReg / 2 % 8 = e.cls.code ∧ d.faultReg / 2 ^ 4 % 4 = e.site.code
    ∧ (e.slot = none → d.faultReg / 2 ^ 6 = 0)
    ∧ ∀ slot, e.slot = some slot → d.faultReg / 2 ^ 6 % 4 = 1 ∧ d.faultReg / 2 ^ 8 = slot.val := by
  have hcls := e.cls.code_le
  have hsite := e.site.code_le
  simp only [Device.faultReg, h, Nat.reducePow]
  cases hs : e.slot with
  | none =>
    simp only [forall_const, reduceCtorEq, IsEmpty.forall_iff, and_true]
    omega
  | some slot =>
    simp only [reduceCtorEq, IsEmpty.forall_iff, Option.some.injEq, true_and, forall_eq']
    omega

/-- The fields of a held entry of the Map Error Log (R69, R174). -/
theorem maplogReg_fields {d : Device} {e : MapLogEntry} (h : d.map.log = some e) (hb : e.bit < 128) :
    d.maplogReg % 2 = 1 ∧ d.maplogReg / 2 % 2 = Machine.bit (e.outcome == .uncorrectable)
    ∧ d.maplogReg / 2 ^ 2 % 2 ^ 6 = e.source.code ∧ d.maplogReg / 2 ^ 8 % 2 ^ 8 = e.bit
    ∧ d.maplogReg / 2 ^ 16 = e.node := by
  have hout := bit_le_one (e.outcome == .uncorrectable)
  have hsource := e.source.code_le
  simp only [Device.maplogReg, h, Nat.reducePow]
  omega

/-! ### Read accesses (R173) -/

/-- No register stands at 0x28 or above. -/
theorem readRegister_high (d : Device) {offset : Nat} (h : 0x28 ≤ offset) : d.readRegister offset = 0 := by
  unfold Device.readRegister
  split <;> omega

/-- Every register has 32 bits. -/
theorem readRegister_lt {d : Device} (hboard : Board.Valid d.board) (h : d.Bounded)
    (hlog : ∀ e, d.map.log = some e → e.bit < 128 ∧ e.node < 1024) (offset : Nat) : d.readRegister offset < 2 ^ 32 := by
  unfold Device.readRegister
  split
  · have := identReg_fields hboard
    have := bit_le_one d.board.bFitted
    omega
  · have := bit_le_one d.regs.run
    have := bit_le_one d.regs.intake
    have := bit_le_one d.regs.batch
    have := d.regs.mask.isLt
    simp only [Registers.controlReg]
    omega
  · have := statusReg_fields h
    have := d.scan.tracker.code_le
    omega
  · have := d.regs.event.isLt
    omega
  · cases hf : d.link.faultRecord with
    | none => simp [Device.faultReg, hf]
    | some e =>
      obtain ⟨-, -, -, hnone, hsome⟩ := faultReg_fields hf
      cases hs : e.slot with
      | none => have := hnone hs; omega
      | some slot => have := hsome slot hs; omega
  · cases hl : d.map.log with
    | none => simp [Device.maplogReg, hl]
    | some e =>
      obtain ⟨hb, hn⟩ := hlog e hl
      have := maplogReg_fields hl hb
      omega
  · unfold Device.faultTimeReg
    split
    · omega
    · exact BitVec.isLt _
  · omega
  · have := d.regs.tableBase.isLt
    omega
  · omega

/-- An access within one register gives the bytes it addresses. -/
theorem readAccess_within (d : Device) {offset width : Nat} (h : offset % 4 + width ≤ 4) :
    d.readAccess offset width = d.readRegister (offset - offset % 4) / 256 ^ (offset % 4) % 256 ^ width := by
  rw [Device.readAccess, if_neg (by omega), if_pos h]

/-- Byte k of a number's lowest w bytes, for k below w. -/
theorem byte_of_low_bytes (x : Nat) {k w : Nat} (h : k < w) : x % 256 ^ w / 256 ^ k % 256 = x / 256 ^ k % 256 := by
  have hw : 256 ^ w = 256 ^ k * 256 ^ (w - k) := by rw [← pow_add]; congr 1; omega
  rw [hw, Nat.mod_mul_right_div_self]
  exact Nat.mod_mod_of_dvd _ (dvd_pow_self 256 (by omega))

/-- The bytes of a narrower access are those of the register (R173). -/
theorem readAccess_bytes (d : Device) {offset width : Nat} (h : offset % 4 + width ≤ 4) :
    d.readAccess offset width < 2 ^ (8 * width)
    ∧ ∀ k < width, d.readAccess offset width / 2 ^ (8 * k) % 2 ^ 8
      = d.readRegister (offset - offset % 4) / 2 ^ (8 * (offset % 4 + k)) % 2 ^ 8 := by
  have hpow : ∀ n, 2 ^ (8 * n) = 256 ^ n := fun n => by rw [pow_mul]; norm_num
  refine ⟨?_, fun k hk => ?_⟩
  · rw [readAccess_within d h, hpow]
    exact Nat.mod_lt _ (by positivity)
  · rw [readAccess_within d h, hpow, hpow, pow_add, ← Nat.div_div_eq_div_mul]
    exact byte_of_low_bytes _ hk

/-- Settles O15. -/
theorem identAndStatusFields : Obligations.IdentAndStatusFields := by
  refine ⟨?registers, ?fault, fun d => ⟨rfl, rfl, rfl, rfl, readRegister_fault_none, readRegister_maplog_none⟩, ?access,
    ?maplog⟩
  case registers =>
    intro d hboard h
    obtain ⟨hchip, hrev, hx, hy, hfit⟩ := identReg_fields hboard
    obtain ⟨hhalted, hready, htrace, hexec, h5, h14, h23, hcaptures, hfull, hholding, htracker⟩ := statusReg_fields h
    exact ⟨hchip, hrev, by rw [hx, Board.nx], by rw [hy, Board.ny], hfit, by rw [hhalted, bit_eq_one_iff],
      by rw [hready, bit_eq_one_iff, beq_iff_eq], by rw [htrace, Device.traceCode_none],
      fun t ht hc => by rw [htrace, Device.traceCode_some ht, hc]; rfl,
      fun t ht hc => by rw [htrace, Device.traceCode_some ht, hc]; rfl,
      by rw [hexec, bit_eq_one_iff, Option.isSome_iff_ne_none], h5, h14, h23, hcaptures,
      by rw [hfull, bit_eq_one_iff, beq_iff_eq], hholding, code_iff SyncState.code_injective htracker rfl,
      code_iff SyncState.code_injective htracker rfl, code_iff SyncState.code_injective htracker rfl,
      code_iff SyncState.code_injective htracker rfl⟩
  case fault =>
    intro d e he v
    obtain ⟨hheld, hcls, hsite, hnone, hsome⟩ := faultReg_fields he
    have hclass : ∀ {n : Nat} {c : FaultClass}, c.code = n → (v / 2 % 8 = n ↔ e.cls = c) :=
      code_iff FaultClass.code_injective hcls
    have hplace : ∀ {n : Nat} {p : Site}, p.code = n → (v / 2 ^ 4 % 4 = n ↔ e.site = p) :=
      code_iff Site.code_injective hsite
    exact ⟨hheld, hclass rfl, hclass rfl, hclass rfl, hclass rfl, hplace rfl, hplace rfl, hplace rfl, hplace rfl, hnone,
      hsome, by simp [Device.readRegister, Device.faultTimeReg, he]⟩
  case access =>
    intro d offset width hboard h
    refine ⟨fun h4 hlog => ?_, ?_, readAccess_bytes d, fun hcross hbase => ?_, fun hlow hhigh => ?_⟩
    · rw [readAccess_within d (by omega), h4]
      simpa using Nat.mod_eq_of_lt (readRegister_lt hboard h hlog offset)
    · exact (Nat.mod_add_div _ _).symm
    · rw [Device.readAccess, if_neg (by omega), if_neg (by omega)]
    · by_cases hw : offset % 4 + width ≤ 4
      · rw [readAccess_within d hw, readRegister_high d (by omega)]
        simp
      · rw [Device.readAccess, if_neg (by omega), if_neg hw]
  case maplog =>
    intro d e he hb hn v
    obtain ⟨hheld, hout, hsource, hbit, hnode⟩ := maplogReg_fields he hb
    have hfrom : ∀ {n : Nat} {r : Requester}, r.code = n → (v / 2 ^ 2 % 2 ^ 6 = n ↔ e.source = r) :=
      code_iff Requester.code_injective hsource
    have hbad : v / 2 % 2 = 1 ↔ e.outcome = .uncorrectable :=
      (Eq.congr_left hout).trans ((bit_eq_one_iff _).trans beq_iff_eq)
    exact ⟨hheld, hbad, hfrom rfl, hfrom rfl, hfrom rfl, hbit, hnode⟩

end Sys2Proof.Machine
end

section
/-!
PROOFS. Reads of the node memory after a write and after a flip (R61, R62).
-/
namespace Sys2Proof.Machine

open Sys2Proof

/-- Below the least index listed every node is blank. -/
theorem readNode_below {m : NodeMem} {lo i : Nat} (hm : wfFrom lo m = true) (h : i < lo) : readNode m i = NodeWord.blank := by
  induction m generalizing lo with
  | nil => rfl
  | cons e rest ih =>
    obtain ⟨j, w⟩ := e
    simp only [wfFrom, Bool.and_eq_true, decide_eq_true_eq] at hm
    obtain ⟨⟨hj, -⟩, hrest⟩ := hm
    rw [readNode, if_neg (by omega)]
    exact ih hrest (by omega)

/-- A node reads as it was written. -/
theorem readNode_writeNode_same {m : NodeMem} {lo : Nat} (hm : wfFrom lo m = true) (i : Nat) (w : NodeWord) :
    readNode (writeNode m i w) i = w := by
  induction m generalizing lo with
  | nil =>
    unfold writeNode
    split
    · next hw => exact hw.symm
    · simp [readNode]
  | cons e rest ih =>
    obtain ⟨j, v⟩ := e
    simp only [wfFrom, Bool.and_eq_true, decide_eq_true_eq] at hm
    obtain ⟨-, hrest⟩ := hm
    unfold writeNode
    split
    · next hlt =>
      split
      · next hw => rw [readNode, if_neg (by omega), hw]; exact readNode_below hrest (by omega)
      · simp [readNode]
    · split
      · next he =>
        split
        · next hw => rw [hw]; exact readNode_below hrest (by omega)
        · simp [readNode]
      · next hne => rw [readNode, if_neg (fun h => hne h.symm)]; exact ih hrest

/-- Another node reads as before. -/
theorem readNode_writeNode_other (m : NodeMem) {i k : Nat} (w : NodeWord) (h : k ≠ i) :
    readNode (writeNode m i w) k = readNode m k := by
  induction m with
  | nil => unfold writeNode; split <;> simp [readNode, h.symm]
  | cons e rest ih =>
    obtain ⟨j, v⟩ := e
    unfold writeNode
    split
    · split <;> simp [readNode, h.symm]
    · split
      · next he => subst he; split <;> simp [readNode, h.symm]
      · rw [readNode, readNode, ih]

/-- Settles O28. -/
theorem mapBitFlipFlipsOneBit : Obligations.MapBitFlipFlipsOneBit := by
  intro s node b hwf
  have hsorted : wfFrom 0 s.dev.map.nodes = true := (Bool.and_eq_true_iff.1 hwf).1
  have hstore : ∀ w, storeNode s.dev.map.nodes node.val w = writeNode s.dev.map.nodes node.val w :=
    fun w => if_pos node.isLt
  have hsame : readNode (storeNode s.dev.map.nodes node.val ((readNode s.dev.map.nodes node.val).flip b)) node.val
      = (readNode s.dev.map.nodes node.val).flip b := by
    rw [hstore]; exact readNode_writeNode_same hsorted _ _
  refine ⟨_, rfl, rfl, fun i hi => ?_, (congrArg NodeWord.cx hsame :),
    (congrArg NodeWord.cy hsame :), fun i hi => ?_⟩
  · show readNode (storeNode _ _ _) i = _
    rw [hstore]; exact readNode_writeNode_other _ _ hi
  · refine (congrArg (fun w => w.flips.getLsbD i) hsame).trans ?_
    simp [NodeWord.flip, hi]

end Sys2Proof.Machine
end

section
/-!
PROOFS. The Map Arbiter: its choice, its pass counts, the bound on a Solver read's wait (R65, R66), and the scrub timer's
request (R70).
-/
namespace Sys2Proof.Machine

open Sys2Proof

/-! ### The choice (R66) -/

/-- The Executor waits and has been passed over eight times. -/
def CorrectionMap.execDue (m : CorrectionMap) : Prop := m.execWaiting = true ∧ 8 ≤ m.execPass

/-- The scrubber waits and has been passed over eight times. -/
def CorrectionMap.scrubDue (m : CorrectionMap) : Prop := m.scrubWaiting = true ∧ 8 ≤ m.scrubPass

/-- The arbiter's choice, case by case. -/
inductive CorrectionMap.Chooses (m : CorrectionMap) : Option Requester → Prop where
  | execDue (he : m.execDue) (hs : m.scrubDue → m.scrubPass ≤ m.execPass) : m.Chooses (some .executor)
  | scrubDue (hs : m.scrubDue) (he : m.execDue → m.execPass < m.scrubPass) : m.Chooses (some .scrubber)
  | solver (he : ¬m.execDue) (hs : ¬m.scrubDue) (hw : m.solverWaiting = true) : m.Chooses (some .solver)
  | exec (he : ¬m.execDue) (hs : ¬m.scrubDue) (hn : m.solverWaiting = false) (hw : m.execWaiting = true) :
    m.Chooses (some .executor)
  | scrub (hs : ¬m.scrubDue) (hn : m.solverWaiting = false) (hne : m.execWaiting = false) (hw : m.scrubWaiting = true) :
    m.Chooses (some .scrubber)
  | none (hn : m.solverWaiting = false) (hne : m.execWaiting = false) (hns : m.scrubWaiting = false) : m.Chooses none

theorem CorrectionMap.choose_chooses (m : CorrectionMap) : m.Chooses m.choose := by
  have hexec : (m.execWaiting && decide (8 ≤ m.execPass)) = true ↔ m.execDue := by simp [CorrectionMap.execDue]
  have hscrub : (m.scrubWaiting && decide (8 ≤ m.scrubPass)) = true ↔ m.scrubDue := by simp [CorrectionMap.scrubDue]
  unfold CorrectionMap.choose
  extract_lets execDue scrubDue
  split
  · next h =>
    simp only [execDue, scrubDue, Bool.and_eq_true, Bool.or_eq_true, Bool.not_eq_true', decide_eq_true_eq] at h
    exact .execDue h.1 fun hs => h.2.resolve_left (by rw [hscrub.2 hs]; simp)
  · next h =>
    split
    · next hs =>
      refine .scrubDue (hscrub.1 hs) fun he => ?_
      by_contra hle
      exact h (by simp [execDue, hexec.2 he, Nat.le_of_not_lt hle])
    · next hs =>
      have hns : ¬m.scrubDue := fun hd => hs (hscrub.2 hd)
      have hne : ¬m.execDue := fun hd => h (by simp [execDue, hexec.2 hd, Bool.not_eq_true _ ▸ hs])
      split
      · next hw => exact .solver hne hns hw
      · next hn =>
        split
        · next hw => exact .exec hne hns (by simpa using hn) hw
        · next hnw =>
          split
          · next hw => exact .scrub hns (by simpa using hn) (by simpa using hnw) hw
          · next hnsw => exact .none (by simpa using hn) (by simpa using hnw) (by simpa using hnsw)

/-- While the Solver waits only a requester that is due goes before it. -/
theorem CorrectionMap.choose_overSolver {m : CorrectionMap} {w : Requester} (h : m.choose = some w)
    (hw : m.solverWaiting = true) (hn : w ≠ .solver) :
    (w = .executor ∧ m.execDue) ∨ (w = .scrubber ∧ m.scrubDue) := by
  have hc := m.choose_chooses
  rw [h] at hc
  cases hc with
  | execDue he => exact .inl ⟨rfl, he⟩
  | scrubDue hs => exact .inr ⟨rfl, hs⟩
  | solver => exact absurd rfl hn
  | exec _ _ hns => exact absurd (hw.symm.trans hns) (by decide)
  | scrub _ hns => exact absurd (hw.symm.trans hns) (by decide)

/-- While the Solver waits and neither other requester is due, it is granted. -/
theorem CorrectionMap.choose_solver {m : CorrectionMap} (hw : m.solverWaiting = true) (he : ¬m.execDue) (hs : ¬m.scrubDue) :
    m.choose = some .solver := by
  have hc := m.choose_chooses
  generalize m.choose = c at hc
  cases hc with
  | execDue h => exact absurd h he
  | scrubDue h => exact absurd h hs
  | solver => rfl
  | exec _ _ hn => exact absurd (hw.symm.trans hn) (by decide)
  | scrub _ hn => exact absurd (hw.symm.trans hn) (by decide)
  | none hn => exact absurd (hw.symm.trans hn) (by decide)

/-- With no Solver read waiting the Executor is granted, unless the scrubber is due. -/
theorem CorrectionMap.choose_exec {m : CorrectionMap} (hn : m.solverWaiting = false) (hw : m.execWaiting = true) :
    m.choose = some .executor ∨ (m.choose = some .scrubber ∧ m.scrubDue) := by
  have hc := m.choose_chooses
  generalize m.choose = c at hc
  cases hc with
  | execDue => exact .inl rfl
  | scrubDue hs => exact .inr ⟨rfl, hs⟩
  | solver _ _ hws => exact absurd (hws.symm.trans hn) (by decide)
  | exec => exact .inl rfl
  | scrub _ _ hne => exact absurd (hw.symm.trans hne) (by decide)
  | none _ hne => exact absurd (hw.symm.trans hne) (by decide)

theorem CorrectionMap.choose_none_iff (m : CorrectionMap) :
    m.choose = none ↔ m.solverWaiting = false ∧ m.execWaiting = false ∧ m.scrubWaiting = false := by
  constructor
  · intro h
    have hc := m.choose_chooses
    rw [h] at hc
    cases hc with
    | none hn hne hns => exact ⟨hn, hne, hns⟩
  · rintro ⟨hn, hne, hns⟩
    simp [CorrectionMap.choose, hn, hne, hns]

/-! ### Grants (R65, R66) -/

theorem arbitrate_busy {d : Device} (h : d.map.grant ≠ none) : arbitrate d = d := by
  unfold arbitrate
  split
  · rfl
  · next hg => exact absurd hg h

theorem arbitrate_none {d : Device} (h : d.map.choose = none) : arbitrate d = d := by
  unfold arbitrate
  split
  · rfl
  · rw [h]

theorem arbitrate_idle {d : Device} (hw : d.map.solverWaiting = false) (he : d.map.execWaiting = false)
    (hs : d.map.scrubWaiting = false) : arbitrate d = d :=
  arbitrate_none ((CorrectionMap.choose_none_iff _).2 ⟨hw, he, hs⟩)

theorem arbitrate_grants {d : Device} {w : Requester} (hg : d.map.grant = none) (h : d.map.choose = some w) :
    arbitrate d = grantTo w d := by
  simp [arbitrate, hg, h]

/-- The pass count of a requester that is not granted rises by one while it waits. -/
theorem passAfter_other (waiting : Bool) (n : Nat) : passAfter false waiting n = n + (if waiting then 1 else 0) := by
  cases waiting <;> simp [passAfter]

/-- What a grant leaves of the requests and pass counts (R66). -/
structure CorrectionMap.Granted (m : CorrectionMap) (w : Requester) (m' : CorrectionMap) : Prop where
  grant : ∃ g, m'.grant = some g ∧ g.who = w
  solver : m'.solverWaiting = true ↔ m.solverWaiting = true ∧ w ≠ .solver
  exec : m'.execWaiting = true ↔ m.execWaiting = true ∧ w ≠ .executor
  scrub : m'.scrubWaiting = true ↔ m.scrubWaiting = true ∧ w ≠ .scrubber
  execZero : w = .executor → m'.execPass = 0
  scrubZero : w = .scrubber → m'.scrubPass = 0
  execRises : w ≠ .executor → m'.execPass = m.execPass + (if m.execWaiting then 1 else 0)
  scrubRises : w ≠ .scrubber → m'.scrubPass = m.scrubPass + (if m.scrubWaiting then 1 else 0)

theorem grantTo_granted (w : Requester) (d : Device) : d.map.Granted w (grantTo w d).map := by
  obtain ⟨nodes, g, hg, h⟩ := grantTo_map w d
  rw [h]
  refine ⟨⟨g, rfl, hg⟩, ?_, ?_, ?_, ?_, ?_, ?_, ?_⟩
  · simp
  · simp
  · simp
  · rintro rfl; rfl
  · rintro rfl; rfl
  · intro hw
    show passAfter (w == .executor) _ _ = _
    rw [beq_eq_false_iff_ne.2 hw, passAfter_other]
  · intro hw
    show passAfter (w == .scrubber) _ _ = _
    rw [beq_eq_false_iff_ne.2 hw, passAfter_other]

/-- A requester that waits and is passed over stands short of the bound (R66). -/
theorem CorrectionMap.PassOk.passed {m : CorrectionMap} {w : Requester} (hp : m.PassOk) (h : m.choose = some w) :
    (w ≠ .executor → m.execWaiting = true → m.execPass ≤ 7)
    ∧ (w ≠ .scrubber → m.scrubWaiting = true → m.scrubPass ≤ 8)
    ∧ (w = .solver → m.scrubWaiting = true → m.scrubPass ≤ 7) := by
  obtain ⟨hexec, hscrub, hapart, -, -⟩ := hp
  have hc := m.choose_chooses
  rw [h] at hc
  have undue : ∀ {waits : Bool} {n : Nat}, ¬(waits = true ∧ 8 ≤ n) → waits = true → n ≤ 7 := by
    intro waits n hn hw; by_contra hlt; exact hn ⟨hw, by omega⟩
  cases hc with
  | execDue he hs =>
    refine ⟨fun hn => absurd rfl hn, fun _ hw => ?_, nofun⟩
    by_contra hlt
    have := hs ⟨hw, by omega⟩
    omega
  | scrubDue hs he =>
    refine ⟨fun _ hw => ?_, fun hn => absurd rfl hn, nofun⟩
    by_contra hlt
    have := he ⟨hw, by omega⟩
    have := hapart (by omega)
    omega
  | solver he hs => exact ⟨fun _ => undue he, fun _ hw => (undue hs hw).trans (by decide), fun _ => undue hs⟩
  | exec he hs => exact ⟨fun _ => undue he, fun _ hw => (undue hs hw).trans (by decide), fun _ => undue hs⟩
  | scrub hs _ hne => exact ⟨fun _ hw => absurd (hw.symm.trans hne) (by decide), fun hn => absurd rfl hn, nofun⟩

/-- No pass count passes 9: a grant by the arbiter's choice keeps the bounds (R66). -/
theorem CorrectionMap.Granted.passOk {m m' : CorrectionMap} {w : Requester} (hg : m.Granted w m') (h : m.choose = some w)
    (hp : m.PassOk) : m'.PassOk := by
  obtain ⟨hexecPassed, hscrubPassed, hsolver⟩ := hp.passed h
  obtain ⟨hexec, hscrub, -, hexecIdle, hscrubIdle⟩ := hp
  have hexecCases : m'.execPass = 0 ∨ (m'.execWaiting = true ∧ w ≠ .executor ∧ m'.execPass ≤ 8) := by
    by_cases hw : w = .executor
    · exact .inl (hg.execZero hw)
    · rw [hg.execRises hw, hg.exec]
      by_cases hwait : m.execWaiting = true
      · have := hexecPassed hw hwait
        exact .inr ⟨⟨hwait, hw⟩, hw, by simp only [hwait, if_true]; omega⟩
      · exact .inl (by simp [hwait, hexecIdle (by simpa using hwait)])
  have hscrubCases : m'.scrubPass = 0
      ∨ (m'.scrubWaiting = true ∧ w ≠ .scrubber ∧ m'.scrubPass ≤ 9 ∧ (w = .solver → m'.scrubPass ≤ 8)) := by
    by_cases hw : w = .scrubber
    · exact .inl (hg.scrubZero hw)
    · rw [hg.scrubRises hw, hg.scrub]
      by_cases hwait : m.scrubWaiting = true
      · have := hscrubPassed hw hwait
        refine .inr ⟨⟨hwait, hw⟩, hw, by simp only [hwait, if_true]; omega, fun hs => ?_⟩
        have := hsolver hs hwait
        simp only [hwait, if_true]; omega
      · exact .inl (by simp [hwait, hscrubIdle (by simpa using hwait)])
  refine ⟨by omega, by omega, fun h9 => ?_, fun hn => ?_, fun hn => ?_⟩
  · obtain ⟨-, hnscrub, -, hle⟩ := hscrubCases.resolve_left (by omega)
    refine hexecCases.elim id fun hwait => ?_
    have := hle (by cases w <;> simp_all)
    omega
  · exact hexecCases.resolve_right fun hwait => absurd (hwait.1.symm.trans hn) (by decide)
  · exact hscrubCases.resolve_right fun hwait => absurd (hwait.1.symm.trans hn) (by decide)

/-- A waiting Solver read is passed over by each other requester at most once (R66). -/
theorem choose_solver_third {m1 m1' m2 m2' m3 : CorrectionMap} {w1 w2 : Requester} (hw : m1.solverWaiting = true)
    (h1 : m1.choose = some w1) (hn1 : w1 ≠ .solver) (hg1 : m1.Granted w1 m1')
    (hs2 : m2.solverWaiting = m1'.solverWaiting) (he2 : m2.execPass = m1'.execPass) (hc2 : m2.scrubPass = m1'.scrubPass)
    (h2 : m2.choose = some w2) (hn2 : w2 ≠ .solver) (hg2 : m2.Granted w2 m2')
    (hs3 : m3.solverWaiting = m2'.solverWaiting) (he3 : m3.execPass = m2'.execPass) (hc3 : m3.scrubPass = m2'.scrubPass) :
    m3.choose = some .solver := by
  have hw2 : m2.solverWaiting = true := hs2.trans (hg1.solver.2 ⟨hw, hn1⟩)
  have hw3 : m3.solverWaiting = true := hs3.trans (hg2.solver.2 ⟨hw2, hn2⟩)
  have hone : ∀ b : Bool, (if b then 1 else 0) ≤ 1 := by decide
  have hexec : w1 = .executor → ¬m2.execDue := fun h hd => by
    have := hd.2
    rw [he2, hg1.execZero h] at this
    omega
  have hscrub : w1 = .scrubber → ¬m2.scrubDue := fun h hd => by
    have := hd.2
    rw [hc2, hg1.scrubZero h] at this
    omega
  have hpass : m3.execPass ≤ 1 ∧ m3.scrubPass ≤ 1 := by
    rw [he3, hc3]
    rcases CorrectionMap.choose_overSolver h1 hw hn1 with ⟨rfl, -⟩ | ⟨rfl, -⟩
    · rcases CorrectionMap.choose_overSolver h2 hw2 hn2 with ⟨rfl, hd⟩ | ⟨rfl, -⟩
      · exact absurd hd (hexec rfl)
      · have := hone m2.execWaiting
        rw [hg2.execRises (by decide), hg2.scrubZero rfl, he2, hg1.execZero rfl]
        omega
    · rcases CorrectionMap.choose_overSolver h2 hw2 hn2 with ⟨rfl, -⟩ | ⟨rfl, hd⟩
      · have := hone m2.scrubWaiting
        rw [hg2.execZero rfl, hg2.scrubRises (by decide), hc2, hg1.scrubZero rfl]
        omega
      · exact absurd hd (hscrub rfl)
  refine CorrectionMap.choose_solver hw3 (fun hd => ?_) fun hd => ?_
  · have := hd.2; omega
  · have := hd.2; omega

/-- Settles O53. -/
theorem arbiterBoundsWaits : Obligations.ArbiterBoundsWaits := by
  refine ⟨fun m hw hn => ?_, fun m hn hw => ?_, CorrectionMap.choose_none_iff,
    fun d h => h.elim arbitrate_busy arbitrate_none,
    fun d w hg h => ?_, ?_⟩
  · cases hc : m.choose with
    | none => exact absurd (hw.symm.trans ((m.choose_none_iff.1 hc).1)) (by decide)
    | some w =>
      rcases CorrectionMap.choose_overSolver hc hw (fun h => hn (h ▸ hc)) with ⟨rfl, hd⟩ | ⟨rfl, hd⟩
      · exact .inl ⟨rfl, hd⟩
      · exact .inr ⟨rfl, hd⟩
  · exact CorrectionMap.choose_exec hn hw
  · rw [arbitrate_grants hg h]
    have hgr := grantTo_granted w d
    exact ⟨hgr.grant, hgr.solver, hgr.exec, hgr.scrub, hgr.execZero, hgr.scrubZero, hgr.execRises, hgr.scrubRises,
      hgr.passOk h⟩
  · intro d1 d2 d3 w1 w2 placed hw h1 hn1 hp1 h2 hn2 hp2
    obtain ⟨hs2, he2, hc2, -, -⟩ := hp1
    obtain ⟨hs3, he3, hc3, -, -⟩ := hp2
    exact choose_solver_third hw h1 hn1 (grantTo_granted w1 d1) hs2 he2 hc2 h2 hn2 (grantTo_granted w2 d2) hs3 he3 hc3

/-! ### The scrub timer (R70) -/

/-- A scrub request at a free port where none waits is granted at once. -/
theorem arbitrate_scrub {d : Device} (hg : d.map.grant = none) (hw : d.map.solverWaiting = false)
    (he : d.map.execWaiting = false) : arbitrate { d with map := { d.map with scrubWaiting := true } } =
    { d with map := { d.map with
      scrubWaiting := false, scrubPass := 0
      grant := some { who := .scrubber, node := d.map.cursor, word := readNode d.map.nodes d.map.cursor } } } := by
  simp [arbitrate, hg, CorrectionMap.choose, hw, he, grantTo, passAfter, Device.requestNode]

/-- Settles O24. -/
theorem scrubTimerPlacesRequest : Obligations.ScrubTimerPlacesRequest := by
  intro s later g
  have next : ∀ {d : Device}, scrubExpiry s.dev = d → exec .scrubTimerExpiry s = .next { s with dev := d } := effect_next
  have due : 1000 ≤ s.dev.map.scrubElapsed → scrubExpiry s.dev = scrubRequest { s.dev with map := later } :=
    fun h => if_pos h
  refine ⟨fun h => next (if_neg (by omega)), fun h hn => next ?_, fun h hr hs hg => next ?_,
    fun h hr hs hg hw he => next ?_⟩
  · rw [due h, scrubRequest, if_neg]
    rintro ⟨hr, hs⟩
    rcases hn with hn | hn
    · exact absurd (hr.symm.trans hn) (by decide)
    · exact absurd (hn.symm.trans hs) (by decide)
  · rw [due h, scrubRequest, if_pos ⟨hr, hs⟩]
    exact arbitrate_busy (by exact hg)
  · rw [due h, scrubRequest, if_pos ⟨hr, hs⟩]
    rw [arbitrate_scrub (by exact hg) (by exact hw) (by exact he)]
    simp [later, g, hs]

end Sys2Proof.Machine
end

section
/-!
PROOFS. A node read noted, and what a scrub grant does with the word (R62, R63, R67, R68, R71).
-/
namespace Sys2Proof.Machine

open Sys2Proof

/-! ### A noted read (R63, R67, R68) -/

/-- A word with two bits flipped reads UNCORRECTABLE, as it is stored, at bit 127 (R63). -/
theorem NodeWord.check_uncorrectable {w : NodeWord} {b c : Fin 39} (hbc : b ≠ c)
    (h : w.flips = BitVec.twoPow 39 b.val ||| BitVec.twoPow 39 c.val) :
    w.check = { outcome := .uncorrectable, cx := w.stored.extractLsb' 0 16, cy := w.stored.extractLsb' 16 16,
                bit := 127 } := by
  have hv : w.verdict = .uncorrectable := by simp [NodeWord.verdict, h, flipCount_pair hbc]
  simp [NodeWord.check, hv]

/-- A cause set in EVENT may send a message or keep one pending. -/
theorem setCause_frame (c : Cause) (d : Device) : ∃ sent msg, setCause c d = { d with
    link := { d.link with sent := sent }, regs := { d.regs with event := d.regs.event ||| c.bits, msgPending := msg } } :=
  testInterrupt_frame d.regs.condition { d with regs := { d.regs with event := d.regs.event ||| c.bits } }

/-- A CLEAN read is neither counted nor logged. -/
theorem noteRead_clean {r : NodeRead} (h : r.outcome = .clean) (node : Nat) (who : Requester) (d : Device) :
    noteRead node r who d = d := by
  simp [noteRead, countOutcome, offerLog, h]

/-- With an entry in the Map Error Log a read is counted alone. -/
theorem noteRead_full {d : Device} {e : MapLogEntry} (h : d.map.log = some e) (node : Nat) (r : NodeRead) (who : Requester) :
    noteRead node r who d = countOutcome r.outcome d := by
  have hlog : (countOutcome r.outcome d).map.log = some e := by cases r.outcome <;> exact h
  unfold noteRead offerLog
  split
  · rfl
  · rw [hlog]

/-- An empty Map Error Log takes a read that is not CLEAN, and MAPERR is set. -/
theorem noteRead_first {d : Device} {r : NodeRead} (h : d.map.log = none) (hr : r.outcome ≠ .clean) (node : Nat)
    (who : Requester) : ∃ sent msg, noteRead node r who d = { countOutcome r.outcome d with
      map := { d.map with log := some { node := node, outcome := r.outcome, bit := r.bit, source := who } }
      link := { d.link with sent := sent }
      regs := { d.regs with event := d.regs.event ||| 4, msgPending := msg } } := by
  have hc : ∃ n, countOutcome r.outcome d = { d with counters := n } := by
    cases r.outcome
    · exact ⟨d.counters, rfl⟩
    · exact ⟨_, rfl⟩
    · exact ⟨_, rfl⟩
  obtain ⟨n, hn⟩ := hc
  have ho : noteRead node r who d = setCause .mapErr { d with
      counters := n
      map := { d.map with log := some { node := node, outcome := r.outcome, bit := r.bit, source := who } } } := by
    rw [noteRead, offerLog, if_neg hr, hn]
    simp only [h]
  obtain ⟨sent, msg, hs⟩ := setCause_frame .mapErr { d with
      counters := n
      map := { d.map with log := some { node := node, outcome := r.outcome, bit := r.bit, source := who } } }
  exact ⟨sent, msg, by rw [ho, hs, hn]; rfl⟩

/-! ### The scrubber's grant (R71) -/

/-- The number of nodes of the grid. -/
theorem Board.nodeCount_eq (b : Board) : b.nodeCount = (b.nx / 4 + 1) * (b.ny / 4 + 1) := by
  simp [Board.nodeCount, Board.nodesX, Board.nodesY, Board.nx, Board.ny]

/-- The part with a word of the node memory repaired, if its read was CORRECTED. -/
def Device.repaired (d : Device) (g : Grant) : Device :=
  { d with map := { d.map with nodes :=
    let r := g.word.check
    if r.outcome = .corrected then storeNode d.map.nodes g.node (NodeWord.fresh r.cx r.cy) else d.map.nodes } }

/-- With no other request waiting, a scrub grant repairs and notes the word, and the port is free. -/
theorem scrubGrant_eq {d noted : Device} {g : Grant} (hg : d.map.grant = some g) (hwho : g.who = .scrubber)
    (hn : noteRead g.node g.word.check .scrubber (d.repaired g) = noted) (hboard : noted.board = d.board)
    (hw : noted.map.solverWaiting = false) (he : noted.map.execWaiting = false) (hs : noted.map.scrubWaiting = false) :
    scrubGrant d = { noted with map := { noted.map with
      grant := none, cursor := nextCursor d.board.nodeCount noted.map.cursor } } := by
  have ha : answerScrub g d = { noted with map := { noted.map with
      grant := none, cursor := nextCursor d.board.nodeCount noted.map.cursor } } := by
    rw [← hboard, ← hn]; rfl
  simp only [scrubGrant, hg, hwho, ha]
  exact arbitrate_idle hw he hs

/-- A scrub grant of a word that is not CLEAN: counted, and offered to the Map Error Log. -/
theorem scrub_notes {s : State} {g : Grant} (hg : s.dev.map.grant = some g) (hwho : g.who = .scrubber)
    (hw : s.dev.map.solverWaiting = false) (he : s.dev.map.execWaiting = false) (hs : s.dev.map.scrubWaiting = false)
    (hr : g.word.check.outcome ≠ .clean) :
    ∃ t, exec .scrub s = .next t ∧ t.pending = s.pending
      ∧ t.dev.map = { s.dev.map with
          grant := none, cursor := nextCursor s.dev.board.nodeCount s.dev.map.cursor
          nodes := (s.dev.repaired g).map.nodes, log := t.dev.map.log }
      ∧ t.dev.counters = (countOutcome g.word.check.outcome s.dev).counters
      ∧ (∀ e, s.dev.map.log = some e → t.dev.map.log = some e ∧ t.dev.regs = s.dev.regs)
      ∧ (s.dev.map.log = none →
        t.dev.map.log = some
          { node := g.node, outcome := g.word.check.outcome, bit := g.word.check.bit, source := .scrubber }
        ∧ t.dev.regs.event = s.dev.regs.event ||| 4) := by
  have hc : ∃ n, countOutcome g.word.check.outcome s.dev = { s.dev with counters := n }
      ∧ countOutcome g.word.check.outcome (s.dev.repaired g) = { s.dev.repaired g with counters := n } := by
    cases g.word.check.outcome
    · exact ⟨s.dev.counters, rfl, rfl⟩
    · exact ⟨_, rfl, rfl⟩
    · exact ⟨_, rfl, rfl⟩
  obtain ⟨n, hcount, hrepaired⟩ := hc
  cases hlog : s.dev.map.log with
  | some e =>
    have hnoted := noteRead_full (d := s.dev.repaired g) hlog g.node g.word.check .scrubber
    rw [hrepaired] at hnoted
    refine ⟨_, effect_next (scrubGrant_eq hg hwho hnoted rfl hw he hs), rfl, rfl, by rw [hcount], ?_, nofun⟩
    rintro e' ⟨⟩
    exact ⟨hlog, rfl⟩
  | none =>
    obtain ⟨sent, msg, hnoted⟩ := noteRead_first (d := s.dev.repaired g) hlog hr g.node .scrubber
    rw [hrepaired] at hnoted
    exact ⟨_, effect_next (scrubGrant_eq hg hwho hnoted rfl hw he hs), rfl, rfl, by rw [hcount], nofun,
      fun _ => ⟨rfl, rfl⟩⟩

/-- Settles O25. -/
theorem scrubActsOnOutcome : Obligations.ScrubActsOnOutcome := by
  intro s g hg hwho hw he hs count cursor after
  have hcursor : nextCursor s.dev.board.nodeCount s.dev.map.cursor = cursor := by rw [Board.nodeCount_eq]; rfl
  refine ⟨fun h => ?_, fun b h => ?_, fun b c hbc h => ?_⟩
  · have hcheck : g.word.check.outcome = .clean := by rw [NodeWord.check_clean h]
    have hd : s.dev.repaired g = s.dev := by simp [Device.repaired, hcheck]
    have hnoted : noteRead g.node g.word.check .scrubber (s.dev.repaired g) = s.dev := by
      rw [hd]; exact noteRead_clean hcheck _ _ _
    have hgrant := scrubGrant_eq hg hwho hnoted rfl hw he hs
    rw [hcursor] at hgrant
    exact effect_next hgrant
  · have hcheck := NodeWord.check_corrected h
    have hnotes := scrub_notes hg hwho hw he hs (by rw [hcheck]; simp)
    simpa only [hcheck, hcursor, Device.repaired, if_true, NodeWord.fresh, countOutcome] using hnotes
  · have hcheck := NodeWord.check_uncorrectable hbc h
    have hnotes := scrub_notes hg hwho hw he hs (by rw [hcheck]; simp)
    simpa only [hcheck, hcursor, Device.repaired, reduceCtorEq, if_false, countOutcome] using hnotes

end Sys2Proof.Machine
end

section
/-!
PROOFS. MAP_LOAD and MAP_READ (R65, R72 to R79): the checks, the first request, and what the Executor's grants do.
-/
namespace Sys2Proof.Machine

open Sys2Proof

/-! ### The Executor's requests (R65, R75, R78) -/

/-- A read asked for outside HALTED, with no other in flight or waiting, is issued at once (R159). -/
theorem requestRead_issues {d : Device} (r : ReadReq) (hh : d.link.halted = false) (hw : d.link.waiting = [])
    (hf : d.link.inFlight = none) (hc : d.link.canIssue = true) :
    requestRead r d = { d with link := { d.link with inFlight := some { req := r, elapsed := 0 } } } := by
  rw [requestRead, if_neg (by simp [hh]), pumpReads]
  simp only [hf, hw, List.nil_append]
  exact (if_pos hc).trans (by simp)

section
variable {d : Device} {slot : Fin 32} (hg : d.map.grant = none) (hw : d.map.solverWaiting = false)
  (hs : d.map.scrubWaiting = false)
include hg hw hs

/-- The Executor's request at a free port where no other waits is granted at once. -/
theorem requestExec_grants : requestExec d = grantTo .executor { d with map := { d.map with execWaiting := true } } := by
  refine arbitrate_grants hg ?_
  simp [CorrectionMap.choose, hw, hs]

/-- A MAP_READ's node read sees the node as it stands. -/
theorem requestExec_reads {w : MapReadWork} (he : d.exec = some { slot := slot, work := .mapRead w }) :
    requestExec d = { d with map := { d.map with
      grant := some
        { who := .executor, node := w.start + w.done + w.group.length
          word := readNode d.map.nodes (w.start + w.done + w.group.length) }
      execWaiting := false, execPass := 0 } } := by
  rw [requestExec_grants hg hw hs]
  simp [grantTo, grantWrite, Device.requestNode, he, passAfter, hs]

/-- A MAP_LOAD's node write stores its head entry's word whole. -/
theorem requestExec_writes {w : MapLoadWork} {e : Int × Int} {rest : List (Int × Int)}
    (he : d.exec = some { slot := slot, work := .mapLoad w }) (hentries : w.entries = e :: rest) :
    let nodes := storeNode d.map.nodes (w.start + w.written)
      { cx := BitVec.ofInt 16 e.1, cy := BitVec.ofInt 16 e.2, flips := 0 }
    requestExec d = { d with map := { d.map with
      nodes := nodes
      grant := some
        { who := .executor, node := w.start + w.written, word := readNode nodes (w.start + w.written) }
      execWaiting := false, execPass := 0 } } := by
  intro nodes
  rw [requestExec_grants hg hw hs]
  simp [grantTo, grantWrite, Device.requestNode, he, hentries, passAfter, hs, nodes, NodeWord.fresh]

end

/-! ### Limited entries (R75) -/

/-- An entry is counted as clamped where a part lies outside −1024..1023. -/
theorem bit_entryClamped (e : Int × Int) :
    bit (entryClamped e) = if -1024 ≤ e.1 ∧ e.1 ≤ 1023 ∧ -1024 ≤ e.2 ∧ e.2 ≤ 1023 then 0 else 1 := by
  have hkept : ∀ v : Int, limitPart v = v ↔ -1024 ≤ v ∧ v ≤ 1023 := by
    intro v; simp only [limitPart, clampInt]; omega
  have hfalse : entryClamped e = false ↔ -1024 ≤ e.1 ∧ e.1 ≤ 1023 ∧ -1024 ≤ e.2 ∧ e.2 ≤ 1023 := by
    simp [entryClamped, hkept, and_assoc]
  split
  · next h => rw [hfalse.2 h]; rfl
  · next h => rw [Bool.eq_true_of_not_eq_false (mt hfalse.1 h)]; rfl

/-! ### A post taken with the map port or the read in use (R136, R141) -/

section
variable {d : Device} {slot : Fin 32}

/-- A post whose beginning brings no producer: its mark and its TAKEN write stand, and the sweep ends. -/
theorem postFound_begins {p : Post} {b : Device} (h : d.Open slot (postKind p)) (notify : Bool)
    (hk : executorKind (postKind p) = true)
    (hb : beginPost slot p (d.taking (d.foundMark slot (postKind p) notify)) = b) (hn : b.NoProducer)
    (hlink : ∃ f, b.link = { (d.taking (d.foundMark slot (postKind p) notify)).link with inFlight := f })
    (hintake : b.intake = (d.taking (d.foundMark slot (postKind p) notify)).intake) (hregs : b.regs = d.regs) :
    postFound slot notify p d
      = setSweep none ((setRotation slot b).wrote [takenWrite (d.foundMark slot (postKind p) notify)]) := by
  obtain ⟨f, hlink⟩ := hlink
  let e := setRotation slot b
  have hne : e.NoProducer := hn.keep rfl rfl rfl rfl
  have hbuffer : e.link.buffer = [takenWrite (d.foundMark slot (postKind p) notify)] :=
    (congrArg LinkPort.buffer hlink :)
  have hcan : e.link.canIssue = true := by
    show b.link.canIssue = true
    rw [hlink]; exact h.finds.calm.canIssue
  have hx : settleLink e = e.wrote [takenWrite (d.foundMark slot (postKind p) notify)] := by
    rw [settleLink_issues hne hcan (by rw [hbuffer]; simp), hbuffer]
  refine postFound_takes h notify hk ((congrArg (fun x => settleLink (setRotation slot x)) hb).trans hx)
    ⟨?_, ?_, ?_, ?_, ?_, .inr rfl⟩
  · show b.intake.sweep = _; rw [hintake]; rfl
  · show b.intake.promptPending = _; rw [hintake]; rfl
  · show b.regs.batch = _; rw [hregs]
  · show b.link.waiting = _; rw [hlink]; rfl
  · exact Device.NoProducer.keep (d := e) hne rfl rfl rfl rfl

/-- A post that completes as it begins, having changed the map: its three writes are in the buffer and its mark is clear. -/
theorem postFound_completesMap {p : Post} {st : Status} {dt : Detail} {fs : List Byte} {m : CorrectionMap}
    (h : d.Open slot (postKind p)) (notify : Bool) (hk : executorKind (postKind p) = true)
    (hb : beginPost slot p (d.taking (d.foundMark slot (postKind p) notify))
      = completeSlot slot st dt fs { d.taking (d.foundMark slot (postKind p) notify) with map := m }) :
    postFound slot notify p d
      = Device.completedSlot { d.swept with map := m } (d.foundMark slot (postKind p) notify) st dt fs := by
  let mark := d.foundMark slot (postKind p) notify
  let e : Device := setRotation slot { d.taking mark with map := m }
  have hn : e.NoProducer := (h.finds.taking_noProducer mark).keep rfl rfl rfl rfl
  have hclear : e.intake.inFlight.filter (fun x => x.slot != slot) = d.intake.inFlight := h.finds.taking_unmarked notify
  have hmark : e.markOf slot = mark := markOf_marked d mark
  have hx : settleLink (setRotation slot (beginPost slot p (d.taking mark)))
      = (clearMark slot e).wrote [takenWrite mark, resultWrite mark st dt fs, doneWrite mark] := by
    have hdone := settleLink_completeSlot hn (h.finds.taking_canIssue mark) (Nat.le_succ 1) slot st dt fs
    rw [hmark] at hdone
    rw [hb]
    exact hdone
  rw [postFound_takes h notify hk hx ⟨rfl, rfl, rfl, rfl, hn.keep rfl rfl rfl rfl, .inr rfl⟩]
  simp only [setSweep, clearMark, Device.wrote, hclear]
  rfl

end

/-! ### MAP_LOAD and MAP_READ as they begin (R72, R73, R78) -/

theorem aligned_iff (n : Nat) (a : Addr) : aligned n a = true ↔ a.toNat % n = 0 := by simp [aligned]

section
variable {b : Board} {p : MapParams}

/-- The run and count that MAP_LOAD's RANGE checks ask for (R73). -/
def loadsInRun (p : MapParams) (b : Board) : Prop :=
  p.count.toNat ≤ 1024 ∧ (p.count.toNat = 0 → p.flags.getLsbD 0 = true)
    ∧ p.start.toNat + p.count.toNat ≤ (b.nx / 4 + 1) * (b.ny / 4 + 1)

theorem count_eq_zero_iff : p.count = 0 ↔ p.count.toNat = 0 := BitVec.toNat_eq.trans (by simp)

theorem mapLoadReject_range (h : ¬loadsInRun p b) : mapLoadReject b p = some .range := by
  simp only [mapLoadReject, Board.nodeCount_eq, count_eq_zero_iff]
  split
  · rfl
  · split
    · rfl
    · next hcount hclear =>
      refine if_pos ?_
      by_contra hrun
      exact h ⟨by omega, fun h0 => by simpa [h0] using hclear, by omega⟩

theorem mapLoadReject_inRun (h : loadsInRun p b) :
    mapLoadReject b p = if p.count.toNat ≠ 0 ∧ ¬p.addr.toNat % 8 = 0 then some .align else none := by
  obtain ⟨hcount, hclear, hrun⟩ := h
  simp only [mapLoadReject, Board.nodeCount_eq, count_eq_zero_iff, ne_eq, aligned_iff]
  rw [if_neg (by omega), if_neg (fun h0 => h0.2 (hclear h0.1)), if_neg (by omega)]

theorem mapReadReject_range
    (h : ¬(1 ≤ p.count.toNat ∧ p.count.toNat ≤ 1024
      ∧ p.start.toNat + p.count.toNat ≤ (b.nx / 4 + 1) * (b.ny / 4 + 1))) :
    mapReadReject b p = some .range := by
  unfold mapReadReject
  rw [Board.nodeCount_eq]
  split
  · rfl
  · exact if_pos (by omega)

theorem mapReadReject_inRun
    (h : 1 ≤ p.count.toNat ∧ p.count.toNat ≤ 1024
      ∧ p.start.toNat + p.count.toNat ≤ (b.nx / 4 + 1) * (b.ny / 4 + 1)) :
    mapReadReject b p = if ¬p.addr.toNat % 8 = 0 then some .align else none := by
  simp only [mapReadReject, Board.nodeCount_eq, aligned_iff]
  rw [if_neg (by omega), if_neg (by omega)]

end

section
variable {d : Device} {slot : Fin 32} {p : MapParams}

theorem beginMapLoad_rejects {dt : Detail} (h : mapLoadReject d.board p = some dt) :
    beginMapLoad slot p d = completeSlot slot .rejected dt [] d := by
  simp only [beginMapLoad, h, completeAtOnce]

theorem beginMapRead_rejects {dt : Detail} (h : mapReadReject d.board p = some dt) :
    beginMapRead slot p d = completeSlot slot .rejected dt [] d := by
  simp only [beginMapRead, h, completeAtOnce]

/-- The map once a MAP_LOAD's CLEAR, if it has one, is applied (R72, R74). -/
def CorrectionMap.cleared (m : CorrectionMap) (clear : Bool) : CorrectionMap :=
  if clear then { m with state := .absent, scrubWaiting := false, scrubPass := 0 } else m

theorem clearMap_if (clear : Bool) (d : Device) :
    (if clear then clearMap d else d) = { d with map := d.map.cleared clear } := by
  cases clear <;> rfl

/-- The work of a MAP_LOAD as it begins. -/
def loadWork (p : MapParams) : MapLoadWork where
  start := p.start.toNat
  count := p.count.toNat
  source := p.addr
  final := p.flags.getLsbD 1
  written := 0
  clamped := 0
  verify := 0
  entries := []

/-- A MAP_LOAD completes, and FINAL makes the map READY (R76). -/
theorem finishMapLoad_eq {work : Work} (w : MapLoadWork) (h : d.exec = some { slot := slot, work := work }) :
    finishMapLoad w d = completeSlot slot .ok .none w.fields
      { d with exec := none, map := { d.map with state := if w.final then .ready else d.map.state } } := by
  cases hf : w.final <;> simp [finishMapLoad, hf, completePost, h]

/-- A MAP_LOAD that passes its checks applies CLEAR and asks for its first piece (R74). -/
theorem beginMapLoad_reads (h : mapLoadReject d.board p = none) (hc : p.count.toNat ≠ 0) :
    beginMapLoad slot p d = requestRead (pieceRead slot (loadWork p))
      (setCurrent slot (.mapLoad (loadWork p)) { d with map := d.map.cleared (p.flags.getLsbD 0) }) := by
  simp only [beginMapLoad, h, clearMap_if]
  exact if_neg (mt count_eq_zero_iff.1 hc)

/-- One with a count of 0 completes at once. -/
theorem beginMapLoad_empty (h : mapLoadReject d.board p = none) (hc : p.count.toNat = 0) (he : d.exec = none) :
    let m := d.map.cleared (p.flags.getLsbD 0)
    beginMapLoad slot p d = completeSlot slot .ok .none (le 6 0)
      { d with map := { m with state := if p.flags.getLsbD 1 then .ready else m.state } } := by
  simp only [beginMapLoad, h, clearMap_if]
  refine (if_pos (count_eq_zero_iff.2 hc)).trans ((finishMapLoad_eq _ rfl).trans ?_)
  rw [← he]
  rfl

end

/-- Settles O39. -/
theorem mapLoadBegins : Obligations.MapLoadBegins := by
  intro s slot notify p hopen m clear final start count nodes inRun cleared
  have hkind : executorKind (postKind (.mapLoad p)) = true := show executorKind 3 = true by decide
  have next : ∀ {d : Device}, postFound slot notify (.mapLoad p) s.dev = d →
      exec (.mapLoad slot notify p) s = .next { s with dev := d } := effect_next
  have hcalm := hopen.finds.calm
  refine ⟨fun hr => next ?range, fun hr hc ha => next ?align, fun hr hc ha => ?reads, fun hr hc => ?empty⟩
  case range =>
    exact postFound_completes (p := .mapLoad p) hopen notify hkind (beginMapLoad_rejects (mapLoadReject_range hr))
  case align =>
    exact postFound_completes (p := .mapLoad p) hopen notify hkind
      (beginMapLoad_rejects ((mapLoadReject_inRun hr).trans (if_pos ⟨hc, ha⟩)))
  case reads =>
    intro w rd reads
    have hpass : mapLoadReject (s.dev.taking m).board p = none := (mapLoadReject_inRun hr).trans (if_neg (fun h => h.2 ha))
    have hread : pieceRead slot (loadWork p) = rd := by simp [pieceRead, loadWork, rd, count]
    let x : Device := { s.dev.taking m with map := cleared, exec := some { slot := slot, work := .mapLoad w } }
    have hb : beginPost slot (.mapLoad p) (s.dev.taking m)
        = { x with link := { x.link with inFlight := some { req := rd, elapsed := 0 } } } := by
      refine (beginMapLoad_reads hpass hc).trans ?_
      rw [hread]
      exact requestRead_issues (d := x) rd hcalm.live hcalm.waiting rfl hcalm.canIssue
    exact next (postFound_begins (p := .mapLoad p) hopen notify hkind hb
      ⟨.inl hcalm.holding, hcalm.slotQueue, hcalm.staging, rfl⟩ ⟨_, rfl⟩ rfl rfl)
  case empty =>
    intro done
    have hpass : mapLoadReject (s.dev.taking m).board p = none := (mapLoadReject_inRun hr).trans (if_neg (fun h => h.1 hc))
    exact next (postFound_completesMap (p := .mapLoad p) hopen notify hkind (beginMapLoad_empty hpass hc hopen.idle))

/-- Settles O41. -/
theorem mapReadBegins : Obligations.MapReadBegins := by
  intro s slot notify p hopen hg hw he hs m start count inRun
  have hkind : executorKind (postKind (.mapRead p)) = true := show executorKind 4 = true by decide
  have next : ∀ {d : Device}, postFound slot notify (.mapRead p) s.dev = d →
      exec (.mapRead slot notify p) s = .next { s with dev := d } := effect_next
  have hcalm := hopen.finds.calm
  refine ⟨fun hr => next ?range, fun hr ha => next ?align, fun hr ha => ?reads⟩
  case range =>
    exact postFound_completes (p := .mapRead p) hopen notify hkind (beginMapRead_rejects (mapReadReject_range hr))
  case align =>
    exact postFound_completes (p := .mapRead p) hopen notify hkind
      (beginMapRead_rejects ((mapReadReject_inRun hr).trans (if_pos ha)))
  case reads =>
    intro w g reads
    have hpass : mapReadReject (s.dev.taking m).board p = none := (mapReadReject_inRun hr).trans (if_neg (not_not.2 ha))
    let x : Device := setCurrent slot (.mapRead w) (s.dev.taking m)
    have hb : beginPost slot (.mapRead p) (s.dev.taking m)
        = { x with map := { s.dev.map with grant := some g, execPass := 0 } } := by
      have hbegin : beginMapRead slot p (s.dev.taking m) = requestExec x := by simp only [beginMapRead, hpass]; rfl
      refine hbegin.trans ((requestExec_reads (d := x) hg hw hs rfl).trans ?_)
      rw [← he]
      rfl
    exact next (postFound_begins (p := .mapRead p) hopen notify hkind hb
      ⟨.inl hcalm.holding, hcalm.slotQueue, hcalm.staging, rfl⟩ ⟨_, rfl⟩ rfl rfl)

end Sys2Proof.Machine
end

section
/-!
PROOFS. The Executor's grants carried out (R65, R67, R74 to R79): a MAP_LOAD's piece and node writes, a MAP_READ's node reads
and groups.
-/
namespace Sys2Proof.Machine

open Sys2Proof

/-! ### A MAP_LOAD's entries (R74, R75) -/

/-- A MAP_LOAD whose head entry has been limited, and counted as clamped if that changed it. -/
def MapLoadWork.limited (w : MapLoadWork) (e : Int × Int) (more : List (Int × Int)) : MapLoadWork :=
  { w with
    clamped := w.clamped + (if -1024 ≤ e.1 ∧ e.1 ≤ 1023 ∧ -1024 ≤ e.2 ∧ e.2 ≤ 1023 then 0 else 1)
    entries := (limitPart e.1, limitPart e.2) :: more }

theorem MapLoadWork.limitHead_eq {w : MapLoadWork} {e : Int × Int} {more : List (Int × Int)} (h : w.entries = e :: more) :
    w.limitHead = w.limited e more := by
  simp [MapLoadWork.limitHead, h, bit_entryClamped, MapLoadWork.limited]

/-- The word of an entry, limited. -/
def limitedWord (e : Int × Int) : NodeWord where
  cx := BitVec.ofInt 16 (limitPart e.1)
  cy := BitVec.ofInt 16 (limitPart e.2)
  flips := 0

/-- A node in the words of a MAP_LOAD's or MAP_READ's grant. -/
def execGrant (nodes : NodeMem) (node : Nat) : Grant where
  who := .executor
  node := node
  word := readNode nodes node

/-- The next entry of a MAP_LOAD at a free port: limited, and its node written at the grant made at once. -/
theorem requestWrite_grants {d : Device} {slot : Fin 32} {work : Work} {w : MapLoadWork} {e : Int × Int}
    {more : List (Int × Int)} (he : d.exec = some { slot := slot, work := work }) (hentries : w.entries = e :: more)
    (hg : d.map.grant = none) (hw : d.map.solverWaiting = false) (hs : d.map.scrubWaiting = false) :
    let nodes := storeNode d.map.nodes (w.start + w.written) (limitedWord e)
    requestWrite w d = { d with
      exec := some { slot := slot, work := .mapLoad (w.limited e more) }
      map := { d.map with
        nodes := nodes, grant := some (execGrant nodes (w.start + w.written)), execWaiting := false, execPass := 0 } } := by
  have hset : setWork (.mapLoad w.limitHead) d = { d with
      exec := some { slot := slot, work := .mapLoad (w.limited e more) } } := by
    simp [setWork, he, MapLoadWork.limitHead_eq hentries]
  rw [requestWrite, hset]
  exact requestExec_writes (d := { d with exec := some { slot := slot, work := .mapLoad (w.limited e more) } })
    (rest := more) hg hw hs rfl rfl

/-! ### A fetched piece (R74, R191) -/

theorem length_sourceEntries (n : Nat) : ∀ bytes : List Byte, (sourceEntries bytes n).length = n := by
  induction n with
  | zero => intro bytes; rfl
  | succ n ih => intro bytes; simp [sourceEntries, ih]

/-- Entry k of a piece stands at offset 8k (R191). -/
theorem getElem?_sourceEntries (n : Nat) : ∀ (bytes : List Byte) {k : Nat}, k < n → (sourceEntries bytes n)[k]? = some
    ((BitVec.ofNat 16 (leValue ((bytes.drop (8 * k)).take 2))).toInt,
      (BitVec.ofNat 16 (leValue ((bytes.drop (8 * k + 2)).take 2))).toInt) := by
  induction n with
  | zero => intro bytes k hk; exact absurd hk (Nat.not_lt_zero k)
  | succ n ih =>
    intro bytes k hk
    cases k with
    | zero => rfl
    | succ k =>
      rw [sourceEntries, List.getElem?_cons_succ, ih _ (by omega), List.drop_drop, List.drop_drop]
      ring_nf

/-- Settles O40. -/
theorem mapPieceWritesFirstNode : Obligations.MapPieceWritesFirstNode := by
  intro s slot w bytes rd hexec hcalm hrd hsite hlen h8 hg hw hs
  refine ⟨sourceEntries bytes (bytes.length / 8), length_sourceEntries _ _, fun k hk => getElem?_sourceEntries _ _ hk, ?_⟩
  intro e more hentries limit word limited node nodes g
  let x : Device := { endRead s.dev with
    exec := some { slot := slot, work := .mapLoad limited }
    map := { s.dev.map with nodes := nodes, grant := some g, execPass := 0, execWaiting := false } }
  have hpiece : mapPiece w bytes (endRead s.dev) = x :=
    requestWrite_grants (d := endRead s.dev) (w := { w with entries := sourceEntries bytes (bytes.length / 8) }) hexec
      hentries hg hw hs
  have hx : x.Settled := ⟨⟨.inl hcalm.holding, hcalm.slotQueue, hcalm.staging, rfl⟩, .inl hcalm.buffer⟩
  refine effect_next (f := pieceArrived bytes) ?_
  rw [pieceArrived, hexec]
  have hmatches : s.dev.readMatches .executor bytes = true := by simp [Device.readMatches, hrd, hsite, hlen]
  simp only [hmatches, if_true, hpiece]
  rw [afterRead, pumpReads_none (by exact hcalm.waiting), settleLink_settled hx]
  rfl

/-! ### A MAP_LOAD's node write (R67, R75, R76) -/

/-- A noted read touches the log, the counters, EVENT, the pending message and what has gone out. -/
theorem Device.Notes.touches {d d' : Device} {node : Nat} {w : NodeWord} {who : Requester} {o : ReadOutcome}
    (h : d.Notes node w who o d') : ∃ log sent event msg n, d' = { d with
      map := { d.map with log := log }, link := { d.link with sent := sent }
      regs := { d.regs with event := event, msgPending := msg }, counters := n } := by
  have raised : ∀ {x y : Device} {bits : BitVec 4}, x.Raises bits y →
      ∃ sent msg, y = { x with
        link := { x.link with sent := sent }, regs := { x.regs with event := x.regs.event ||| bits, msgPending := msg } } :=
    fun hr => ⟨_, _, Device.raises_frame hr⟩
  have offered : ∀ {n : Counters} {e : MapLogEntry}, Device.Offered { d with counters := n } e d' →
      ∃ log sent event msg, d' = { d with
        map := { d.map with log := log }, link := { d.link with sent := sent }
        regs := { d.regs with event := event, msgPending := msg }, counters := n } := by
    intro n e ho
    cases ho with
    | full => exact ⟨d.map.log, d.link.sent, d.regs.event, d.regs.msgPending, rfl⟩
    | first _ hr =>
      obtain ⟨sent, msg, rfl⟩ := raised hr
      exact ⟨_, sent, _, msg, rfl⟩
  cases h with
  | clean => exact ⟨d.map.log, d.link.sent, d.regs.event, d.regs.msgPending, d.counters, rfl⟩
  | corrected _ _ ho => obtain ⟨log, sent, event, msg, h⟩ := offered ho; exact ⟨log, sent, event, msg, _, h⟩
  | uncorrectable _ _ _ _ ho => obtain ⟨log, sent, event, msg, h⟩ := offered ho; exact ⟨log, sent, event, msg, _, h⟩

/-- A MAP_LOAD's grant is answered: its read-back is noted and the work goes on from the next entry. -/
theorem loadGrant_answered {d d' : Device} {g : Grant} {slot : Fin 32} {w : MapLoadWork} {e : Int × Int}
    {rest : List (Int × Int)} {o : ReadOutcome} (hg : d.map.grant = some g) (hwho : g.who = .executor)
    (he : d.exec = some { slot := slot, work := .mapLoad w }) (hentries : w.entries = e :: rest)
    (hn : d.Notes g.node (readNode d.map.nodes g.node) .executor o d') :
    loadGrant d = settleLink (arbitrate (continueMapLoad { d' with
      exec := some { slot := slot, work := .mapLoad { w with
        written := w.written + 1, verify := w.verify + (if o = .clean then 0 else 1), entries := rest } }
      map := { d'.map with grant := none } })) := by
  obtain ⟨ho, hnote⟩ := noteRead_notes hn
  have he' : d'.exec = d.exec := by rw [hn.frame]
  have hbit : bit (o != .clean) = if o = .clean then 0 else 1 := by cases o <;> rfl
  have ha : answerExec g d = { d' with
      exec := some { slot := slot, work := .mapLoad { w with
        written := w.written + 1, verify := w.verify + (if o = .clean then 0 else 1), entries := rest } }
      map := { d'.map with grant := none } } := by
    simp only [answerExec, he, hnote, ho, MapLoadWork.advance, hentries, hbit, endGrant, setWork, he', Option.map_some]
  simp only [loadGrant, hg, hwho, Device.loadsMap, he, if_true, ha]

/-- A noted read leaves a calm part calm. -/
theorem Device.Notes.calm {d d' : Device} {node : Nat} {w : NodeWord} {who : Requester} {o : ReadOutcome}
    (h : d.Notes node w who o d') (hc : d.Calm) : d'.Calm := by
  obtain ⟨log, sent, event, msg, n, rfl⟩ := h.touches
  exact ⟨hc.up, hc.mastering, hc.live, hc.waiting, hc.buffer, hc.issued, hc.slotQueue, hc.holding, hc.staging,
    bulkGrant_none_of_exec (d := d) rfl hc.bulk⟩

/-- It leaves every slot's mark. -/
theorem Device.Notes.markOf {d d' : Device} {node : Nat} {w : NodeWord} {who : Requester} {o : ReadOutcome}
    (h : d.Notes node w who o d') (slot : Fin 32) : d'.markOf slot = d.markOf slot := by
  obtain ⟨log, sent, event, msg, n, rfl⟩ := h.touches
  rfl

section
variable {d : Device} {slot : Fin 32} {w : MapLoadWork} (hc : d.Calm)
  (he : d.exec = some { slot := slot, work := .mapLoad w }) (hw : d.map.solverWaiting = false)
  (hs : d.map.scrubWaiting = false)
include hc he hw hs

/-- A MAP_LOAD with an entry left goes on to it. -/
theorem continueMapLoad_entry {f : Int × Int} {more : List (Int × Int)} (hentries : w.entries = f :: more)
    (hg : d.map.grant = none) :
    let nodes := storeNode d.map.nodes (w.start + w.written) (limitedWord f)
    settleLink (arbitrate (continueMapLoad d)) = { d with
      exec := some { slot := slot, work := .mapLoad (w.limited f more) }
      map := { d.map with
        nodes := nodes, grant := some (execGrant nodes (w.start + w.written)), execWaiting := false, execPass := 0 } } := by
  intro nodes
  have hgo : continueMapLoad d = requestWrite w d := by simp only [continueMapLoad, he, hentries]
  rw [hgo, requestWrite_grants he hentries hg hw hs, arbitrate_busy (Option.some_ne_none _), settleLink_settled]
  exact ⟨⟨.inl hc.holding, hc.slotQueue, hc.staging, rfl⟩, .inl hc.buffer⟩

/-- One with none left and more of its run to come asks for its next piece. -/
theorem continueMapLoad_piece (hx : d.map.execWaiting = false) (hentries : w.entries = []) (hmore : w.written < w.count)
    (hf : d.link.inFlight = none) : settleLink (arbitrate (continueMapLoad d)) =
      { d with link := { d.link with inFlight := some { req := pieceRead slot w, elapsed := 0 } } } := by
  have hgo : continueMapLoad d
      = { d with link := { d.link with inFlight := some { req := pieceRead slot w, elapsed := 0 } } } := by
    simp only [continueMapLoad, he, hentries, if_neg (Nat.not_le.2 hmore)]
    rw [requestRead_issues _ hc.live hc.waiting hf hc.canIssue, he]
  rw [hgo, arbitrate_idle (by exact hw) (by exact hx) (by exact hs), settleLink_settled]
  exact ⟨⟨.inl hc.holding, hc.slotQueue, hc.staging, bulkGrant_none_of_exec (d := d) rfl hc.bulk⟩, .inl hc.buffer⟩

/-- At the end of its run it completes (R76). -/
theorem continueMapLoad_finishes (he' : d.map.execWaiting = false) (hentries : w.entries = [])
    (hdone : w.count ≤ w.written) :
    settleLink (arbitrate (continueMapLoad d)) = Device.wrote
      (clearMark slot { d with
        exec := none, map := { d.map with state := if w.final then .ready else d.map.state } })
      [resultWrite (d.markOf slot) .ok .none w.fields, doneWrite (d.markOf slot)] := by
  have hgo : continueMapLoad d = completeSlot slot .ok .none w.fields
      { d with exec := none, map := { d.map with state := if w.final then .ready else d.map.state } } := by
    simp only [continueMapLoad, he, hentries, if_pos hdone]
    exact finishMapLoad_eq w he
  let x : Device := { d with
    exec := none, map := { d.map with state := if w.final then .ready else d.map.state } }
  have hx : x.NoProducer := ⟨.inl hc.holding, hc.slotQueue, hc.staging, rfl⟩
  have hb : x.link.buffer = [] := hc.buffer
  rw [hgo, arbitrate_idle (by exact hw) (by exact he') (by exact hs)]
  refine (settleLink_completeSlot hx hc.canIssue (by simp [hb]) slot .ok .none w.fields).trans ?_
  rw [hb]
  rfl

end

/-- Settles O26. -/
theorem mapLoadNodeWriteGoesOn : Obligations.MapLoadNodeWriteGoesOn := by
  intro s g slot w e rest hg hwho hexec hentries hcalm hw he hs o d hn w' limit m
  let x : Device := { d with
    exec := some { slot := slot, work := .mapLoad w' }, map := { d.map with grant := none } }
  have hanswered : loadGrant s.dev = settleLink (arbitrate (continueMapLoad x)) :=
    loadGrant_answered hg hwho hexec hentries hn
  have next : ∀ {d : Device}, settleLink (arbitrate (continueMapLoad x)) = d →
      exec .mapLoadNodeWrite s = .next { s with dev := d } :=
    fun h => effect_next (f := loadGrant) (hanswered.trans h)
  have hxw : x.map.solverWaiting = false := by show d.map.solverWaiting = false; rw [hn.frame]; exact hw
  have hxe : x.map.execWaiting = false := by show d.map.execWaiting = false; rw [hn.frame]; exact he
  have hxs : x.map.scrubWaiting = false := by show d.map.scrubWaiting = false; rw [hn.frame]; exact hs
  have hnodes : d.map.nodes = s.dev.map.nodes := by rw [hn.frame]
  have hdcalm := hn.calm hcalm
  have hxcalm : x.Calm := ⟨hdcalm.up, hdcalm.mastering, hdcalm.live, hdcalm.waiting, hdcalm.buffer, hdcalm.issued,
    hdcalm.slotQueue, hdcalm.holding, hdcalm.staging, rfl⟩
  refine ⟨fun f more hrest => ?entry, fun hrest hmore hf => ?piece, fun hrest hdone => ?finish⟩
  case entry =>
    intro node word nodes limited g'
    refine (next (continueMapLoad_entry hxcalm rfl hxw hxs hrest rfl)).trans ?_
    rw [← hxe, show x.map.nodes = s.dev.map.nodes from hnodes]
    rfl
  case piece =>
    exact next (continueMapLoad_piece hxcalm rfl hxw hxs hxe hrest hmore (by
      show d.link.inFlight = none
      obtain ⟨log, sent, event, msg, n, rfl⟩ := hn.touches
      exact hf))
  case finish =>
    intro counts ws freed done
    refine (next (continueMapLoad_finishes hxcalm rfl hxw hxs hxe hrest hdone)).trans ?_
    have hmark : x.markOf slot = m := hn.markOf slot
    have hstate : d.map.state = s.dev.map.state := by rw [hn.frame]
    have hintake : d.intake = s.dev.intake := by rw [hn.frame]
    rw [hmark]
    show Host.Outcome.next { s with dev := Device.wrote (clearMark slot { d with
      exec := none, map := { d.map with grant := none, state := if w.final then .ready else d.map.state } }) ws } = _
    rw [hstate, clearMark, hintake]

end Sys2Proof.Machine
end

section
/-!
PROOFS. MAP_READ_NODE_READ (R63, R65, R67, R78, R79), and the free entries that a bulk write and a completion take (R162,
R163).
-/
namespace Sys2Proof.Machine

open Sys2Proof

/-! ### Free entries (R162, R163) -/

/-- No free entry is granted while the buffer is full. -/
theorem grantEntries_full {d : Device} (h : d.link.buffer.length = 4) (n : Nat) : grantEntries n d = d := by
  have hfree : d.link.free = false := by simp [LinkPort.free, h]
  have hd : offerDrain d = d := by simp [offerDrain, hfree]
  cases n with
  | zero => rfl
  | succ n => simp [grantEntries, hd, grantOne, hfree]

/-- A free entry that the drain leaves is granted to the first class below it that waits. -/
theorem grantEntries_below {d x : Device} (hd : d.delivery.holding = [] ∨ d.delivery.captures = [])
    (hroom : d.link.buffer.length < 4) (hb : grantBelowDrain d = some x) (n : Nat) :
    grantEntries (n + 1) d = grantEntries n x := by
  have hfree : d.link.free = true := by simpa [LinkPort.free] using hroom
  simp [grantEntries, offerDrain_idle hd, grantOne, hfree, hb]

/-- With no slot write and no staged frame a bulk write is the first to wait. -/
theorem grantBelowDrain_bulk {d : Device} (hq : d.link.slotQueue = []) (ht : ∀ t, d.trace = some t → t.staging = []) :
    grantBelowDrain d = bulkGrant d := by
  unfold grantBelowDrain
  rw [hq]
  simp only
  split
  · next t h => rw [ht t h]
  · rfl

/-- A slot's completion where no other producer waits and the buffer has room. -/
theorem grantEntries_completeSlot {d : Device} (h : d.NoProducer) (hb : d.link.buffer.length ≤ 2) {n : Nat} (hn : 2 ≤ n)
    (slot : Fin 32) (st : Status) (dt : Detail) (fs : List Byte) :
    grantEntries n (completeSlot slot st dt fs d) = { clearMark slot d with link := { d.link with
      buffer := d.link.buffer ++ [resultWrite (d.markOf slot) st dt fs, doneWrite (d.markOf slot)] } } := by
  refine (grantEntries_handOver h hn (by simp; omega)).trans ?_
  simp [slotWriteIn, enterSlotWrite, resultWrite, doneWrite, enterBuffer, clearMark, d.markOf_slot slot]

/-! ### A MAP_READ's group (R78, R79) -/

/-- The write of a MAP_READ's group. -/
def MapReadWork.block (w : MapReadWork) : HostWrite where
  role := .bulk
  addr := w.dest + BitVec.ofNat 64 (8 * w.done)
  data := w.group.flatMap NodeOutput.image

/-- A MAP_READ once its group has entered the buffer. -/
def MapReadWork.delivered (w : MapReadWork) : MapReadWork :=
  { w with
    done := w.done + w.group.length
    corrected := w.corrected + countIn .corrected w.group
    uncorrectable := w.uncorrectable + countIn .uncorrectable w.group
    group := [] }

theorem MapReadWork.groupReady_iff (w : MapReadWork) :
    w.groupReady = true ↔ w.group ≠ [] ∧ w.group.length = min 16 (w.count - w.done) := by
  simp [MapReadWork.groupReady]

section
variable {d : Device} {slot : Fin 32} {w : MapReadWork} (he : d.exec = some { slot := slot, work := .mapRead w })
include he

theorem bulkGrant_mapRead (hr : w.groupReady = true) : bulkGrant d = some (bulkMapRead w d) := by
  simp [bulkGrant, he, hr]

theorem bulkGrant_gathering (hr : w.groupReady = false) : bulkGrant d = none := by
  simp [bulkGrant, he, hr]

/-- The last group completes the post. -/
theorem bulkMapRead_last (hl : w.done + w.group.length = w.count) :
    bulkMapRead w d = completeSlot slot .ok .none w.delivered.fields { enterBuffer w.block d with exec := none } := by
  refine (if_pos hl).trans ?_
  simp only [completePost, enterBuffer_exec, setWork, he, Option.map_some]
  rfl

/-- Any other is followed by the next group's first node, granted at once at a free port where no request waits. -/
theorem bulkMapRead_next (hl : w.done + w.group.length ≠ w.count) (hg : d.map.grant = none)
    (hw : d.map.solverWaiting = false) (hs : d.map.scrubWaiting = false) :
    bulkMapRead w d = { enterBuffer w.block d with
      exec := some { slot := slot, work := .mapRead w.delivered }
      map := { d.map with
        grant := some (execGrant d.map.nodes (w.start + w.done + w.group.length))
        execWaiting := false, execPass := 0 } } := by
  have hset : setWork (.mapRead w.delivered) d = { d with exec := some { slot := slot, work := .mapRead w.delivered } } := by
    simp [setWork, he]
  have hnext : bulkMapRead w d = requestExec (enterBuffer w.block (setWork (.mapRead w.delivered) d)) := if_neg hl
  rw [hnext, hset]
  refine (requestExec_reads (w := w.delivered) (by exact hg) (by exact hw) (by exact hs) rfl).trans ?_
  simp [MapReadWork.delivered, execGrant, Nat.add_assoc]
  rfl

end

/-! ### A MAP_READ's node read -/

/-- A MAP_READ's grant is answered: its read is counted, and its entry joins the group (R67, R78). -/
theorem readGrant_answered {d : Device} {g : Grant} {slot : Fin 32} {w : MapReadWork} {counted : Counters}
    (hg : d.map.grant = some g) (hwho : g.who = .executor) (he : d.exec = some { slot := slot, work := .mapRead w })
    (hcount : countOutcome g.word.check.outcome d = { d with counters := counted }) :
    readGrant d = settleLink (arbitrate (continueMapRead { d with
      exec := some { slot := slot, work := .mapRead { w with group := w.group ++ [g.word.check.output] } }
      counters := counted, map := { d.map with grant := none } })) := by
  have ha : answerExec g d = { d with
      exec := some { slot := slot, work := .mapRead { w with group := w.group ++ [g.word.check.output] } }
      counters := counted, map := { d.map with grant := none } } := by
    simp only [answerExec, he, hcount, endGrant, setWork, Option.map_some]
  simp only [readGrant, hg, hwho, Device.readsMap, he, if_true, ha]

/-- The entry a read yields and how it is counted, by the flips of its word (R63, R67, R199). -/
theorem NodeWord.read_counted {d : Device} {word : NodeWord} {n : NodeOutput} {counted : Counters}
    (h : let stored : BitVec 32 := (word.cy ++ word.cx) ^^^ word.flips.extractLsb' 0 32
      let written : NodeOutput :=
        { cx := limitPart word.cx.toInt, cy := limitPart word.cy.toInt, outcome := .clean, bit := 0 }
      (word.flips = 0 ∧ n = written ∧ counted = d.counters)
      ∨ (∃ b : Fin 39, word.flips = BitVec.twoPow 39 b.val ∧ n = { written with outcome := .corrected, bit := b.val }
        ∧ counted = { d.counters with mapCorrected := d.counters.mapCorrected + 1 })
      ∨ (∃ b c : Fin 39, b ≠ c ∧ word.flips = BitVec.twoPow 39 b.val ||| BitVec.twoPow 39 c.val
        ∧ n = { cx := limitPart (stored.extractLsb' 0 16).toInt, cy := limitPart (stored.extractLsb' 16 16).toInt,
                outcome := .uncorrectable, bit := 127 }
        ∧ counted = { d.counters with mapUncorrectable := d.counters.mapUncorrectable + 1 })) :
    word.check.output = n ∧ countOutcome word.check.outcome d = { d with counters := counted } := by
  rcases h with ⟨hf, rfl, rfl⟩ | ⟨b, hf, rfl, rfl⟩ | ⟨b, c, hbc, hf, rfl, rfl⟩
  · rw [NodeWord.check_clean hf]; exact ⟨rfl, rfl⟩
  · rw [NodeWord.check_corrected hf]; exact ⟨rfl, rfl⟩
  · rw [NodeWord.check_uncorrectable hbc hf]; exact ⟨rfl, rfl⟩

section
variable {d : Device} {slot : Fin 32} {w : MapReadWork} (hn : Device.NoProducer { d with exec := none })
  (hcan : d.link.canIssue = true) (hb : d.link.buffer = []) (he : d.exec = some { slot := slot, work := .mapRead w })
  (hg : d.map.grant = none) (hw : d.map.solverWaiting = false) (hx : d.map.execWaiting = false)
  (hs : d.map.scrubWaiting = false)
include hn he hw hs

include hg hb in
/-- While its group is not complete the next node is granted. -/
theorem continueMapRead_gathers (hr : w.groupReady = false) : settleLink (arbitrate (continueMapRead d)) = { d with
    map := { d.map with
      grant := some (execGrant d.map.nodes (w.start + w.done + w.group.length)), execWaiting := false, execPass := 0 } } := by
  have hgo : continueMapRead d = requestExec d := by simp [continueMapRead, he, hr]
  rw [hgo, requestExec_reads hg hw hs he, arbitrate_busy (Option.some_ne_none _)]
  exact settleLink_settled ⟨⟨hn.drain, hn.slotQueue, hn.staging, bulkGrant_gathering (w := w) he hr⟩, .inl hb⟩

include hx hb in
/-- A complete group takes an entry of the empty buffer (R78). -/
theorem continueMapRead_delivers (hr : w.groupReady = true) :
    settleLink (arbitrate (continueMapRead d)) = issueHead (grantEntries 3 (bulkMapRead w d)) := by
  have hgo : continueMapRead d = arbitrate d := by simp [continueMapRead, he, hr]
  have hbelow : grantBelowDrain d = some (bulkMapRead w d) :=
    (grantBelowDrain_bulk (d := d) hn.slotQueue hn.staging).trans (bulkGrant_mapRead he hr)
  rw [hgo, arbitrate_idle hw hx hs, arbitrate_idle hw hx hs, settleLink, grants,
    grantEntries_below (d := d) hn.drain (by simp [hb]) hbelow]

include hg hx hb hcan in
/-- A group that is not the last: the next group's first node is granted. -/
theorem continueMapRead_next (hr : w.groupReady = true) (hl : w.done + w.group.length ≠ w.count) :
    settleLink (arbitrate (continueMapRead d)) = Device.wrote { d with
      exec := some { slot := slot, work := .mapRead w.delivered }
      map := { d.map with
        grant := some (execGrant d.map.nodes (w.start + w.done + w.group.length)), execWaiting := false, execPass := 0 } }
      [w.block] := by
  rw [continueMapRead_delivers hn hb he hw hx hs hr, bulkMapRead_next he hl hg hw hs, grantEntries_noProducer,
    issueHead_issues (by exact hcan) (by simp [enterBuffer])]
  · simp [enterBuffer, hb, Device.wrote]
  · exact ⟨hn.drain, hn.slotQueue, hn.staging, rfl⟩

include hx hb hcan in
/-- After the last group the post completes with its counts (R79). -/
theorem continueMapRead_finishes (hr : w.groupReady = true) (hl : w.done + w.group.length = w.count) :
    settleLink (arbitrate (continueMapRead d)) = (clearMark slot { d with exec := none }).wrote
      [w.block, resultWrite (d.markOf slot) .ok .none w.delivered.fields, doneWrite (d.markOf slot)] := by
  let x : Device := { enterBuffer w.block d with exec := none }
  have hxn : x.NoProducer := hn.keep rfl rfl rfl rfl
  have hxb : x.link.buffer = [w.block] := by simp [x, enterBuffer, hb]
  rw [continueMapRead_delivers hn hb he hw hx hs hr, bulkMapRead_last he hl]
  have hdone := grantEntries_completeSlot (n := 3) hxn (by simp [hxb]) (by decide) slot .ok .none w.delivered.fields
  rw [hdone, issueHead_issues (by exact hcan) (by simp), hxb]
  rfl

end

/-- Settles O27. -/
theorem mapReadNodeReadGathers : Obligations.MapReadNodeReadGathers := by
  intro s g slot w n counted hg hwho hexec hcalm hw hx hs stored written hread group ok block
  obtain ⟨houtput, hcount⟩ := NodeWord.read_counted hread
  let y : Device := { s.dev with
    exec := some { slot := slot, work := .mapRead { w with group := group } }
    counters := counted, map := { s.dev.map with grant := none } }
  have hanswered : readGrant s.dev = settleLink (arbitrate (continueMapRead y)) := by
    rw [readGrant_answered hg hwho hexec hcount, houtput]
  have next : ∀ {d : Device}, settleLink (arbitrate (continueMapRead y)) = d →
      exec .mapReadNodeRead s = .next { s with dev := d } := fun h => effect_next (f := readGrant) (hanswered.trans h)
  have hn : Device.NoProducer { y with exec := none } := ⟨.inl hcalm.holding, hcalm.slotQueue, hcalm.staging, rfl⟩
  have hready : group.length = min 16 (w.count - w.done) → MapReadWork.groupReady { w with group := group } = true :=
    fun h => (MapReadWork.groupReady_iff _).2 ⟨by simp [group], h⟩
  refine ⟨fun hlt => ?gathers, fun hlen hmore => ?next, fun hlen hlast => ?finishes⟩
  case gathers =>
    intro node g'
    have hr : MapReadWork.groupReady { w with group := group } = false :=
      Bool.eq_false_iff.2 fun h => absurd ((MapReadWork.groupReady_iff _).1 h).2 (Nat.ne_of_lt hlt)
    refine (next (continueMapRead_gathers hn hcalm.buffer rfl rfl hw hs hr)).trans ?_
    rw [← hx]
    rfl
  case next =>
    intro node g' w' goesOn
    refine (next (continueMapRead_next hn hcalm.canIssue hcalm.buffer rfl rfl hw hx hs (hready hlen)
      (Nat.ne_of_lt hmore))).trans ?_
    rw [← hx]
    rfl
  case finishes =>
    intro m counts done ws
    refine (next (continueMapRead_finishes hn hcalm.canIssue hcalm.buffer rfl hw hx hs (hready hlen) hlast)).trans ?_
    have hfields : (MapReadWork.delivered { w with group := group }).fields = counts := by
      simp only [MapReadWork.fields, MapReadWork.delivered, hlast, counts, ok, countIn]
    rw [hfields]
    rfl

end Sys2Proof.Machine
end

section
/-!
PROOFS. WRITE_ACCEPTED: the head leaves, a sweep counts it, and its entry goes to the first class that waits (R78, R79, R99,
R106, R131, R139, R151, R152, R161 to R163, R185).
-/
namespace Sys2Proof.Machine

open Sys2Proof

/-! ### The freed entry (R161, R163) -/

/-- The part with these writes in the buffer and its head, if there is one, issued. -/
def Device.headed (d : Device) (b : List HostWrite) : Device :=
  { d with link := { d.link with buffer := b, issued := !b.isEmpty } }

/-- What stands in the buffer is issued from its head on (R161). -/
theorem issueHead_headed {d : Device} (hc : d.link.canIssue = true) (hi : d.link.issued = false) :
    issueHead d = d.headed d.link.buffer := by
  cases hb : d.link.buffer with
  | nil =>
    rw [issueHead_empty hb]
    show d = { d with link := { d.link with buffer := [], issued := false } }
    rw [← hb, ← hi]
  | cons w rest =>
    have hne : d.link.buffer ≠ [] := by simp [hb]
    rw [issueHead_issues hc hne, hb]
    rfl

/-- With no producer waiting the next head is issued. -/
theorem settleLink_headed {d : Device} (hn : d.NoProducer) (hc : d.link.canIssue = true) (hi : d.link.issued = false) :
    settleLink d = d.headed d.link.buffer := by
  rw [settleLink, grants, grantEntries_noProducer hn, issueHead_headed hc hi]

/-- The head issued has been accepted: what follows its leaving (R161). -/
theorem acceptHead_accepts {d d' : Device} {w : HostWrite} {rest : List HostWrite} (hb : d.link.buffer = w :: rest)
    (hi : d.link.issued = true) (ha : d.Accepts w rest d') : acceptHead d = settleLink (sweepEntryLeft d') := by
  simp only [acceptHead, hb, hi, if_true, doneCause_accepts ha]

/-- With no head issued no write is accepted. -/
theorem acceptHead_none {d : Device} (h : d.link.buffer = [] ∨ d.link.issued = false) : acceptHead d = d := by
  unfold acceptHead
  split
  · rfl
  · next w rest hb => simp [h.resolve_left (by simp [hb])]

/-- What an accepted write touches: the buffer, what has gone out, EVENT and the pending message. -/
theorem Device.Accepts.touches {d d' : Device} {w : HostWrite} {rest : List HostWrite} (h : d.Accepts w rest d') :
    ∃ sent event msg, d' = { d with
      link := { d.link with buffer := rest, issued := false, sent := sent }
      regs := { d.regs with event := event, msgPending := msg } } := ⟨_, _, _, d.accepts_frame h⟩

/-! ### A sweep that waits for strip writes (R131) -/

/-- A sweep that waits for no strip write does not count the entry. -/
theorem sweepEntryLeft_none {d : Device} (h : ∀ sw n, d.intake.sweep = some sw → sw.phase ≠ .waitStrips n) :
    sweepEntryLeft d = d := by
  unfold sweepEntryLeft
  split
  · next sw hs =>
    split
    · next n hp => exact absurd hp (h sw n hs)
    · rfl
  · rfl

section
variable {d : Device} {sw : Sweep} (hs : d.intake.sweep = some sw)
include hs

/-- The entry is counted while more are awaited. -/
theorem sweepEntryLeft_counts {n : Nat} (hp : sw.phase = .waitStrips (n + 2)) :
    sweepEntryLeft d = setSweep (some { sw with phase := .waitStrips (n + 1) }) d := by
  simp [sweepEntryLeft, hs, hp]

/-- The last entry awaited asks for the strip read. -/
theorem sweepEntryLeft_reads (hp : sw.phase = .waitStrips 1) :
    sweepEntryLeft d = requestRead (stripRead sw.base) (setSweep (some { sw with phase := .strip }) d) := by
  simp [sweepEntryLeft, hs, hp]

end

/-- A read asked for outside HALTED while another is in flight waits (R159). -/
theorem requestRead_waits {d : Device} (r : ReadReq) (hh : d.link.halted = false) (hw : d.link.waiting = [])
    (hf : d.link.inFlight ≠ none) : requestRead r d = { d with link := { d.link with waiting := [r] } } := by
  obtain ⟨f, hf⟩ := Option.ne_none_iff_exists'.1 hf
  simp [requestRead, hh, pumpReads, hf, hw]

/-! ### A held record (R99, R106) -/

/-- A full buffer takes no record of a drain. -/
theorem drainGo_full {d : Device} (h : d.link.buffer.length = 4) (q : List Record) : ∀ b, drainGo q b d = (q, d) := by
  have hfree : d.link.free = false := by simp [LinkPort.free, h]
  induction q with
  | nil => intro b; rfl
  | cons r rest ih =>
    intro b
    unfold drainGo
    split
    · rw [ih]
    · split
      · rw [ih]
      · rw [if_neg (by simp [hfree])]

/-- A capture short of its capacity that no flag ends goes on after a record (R117). -/
theorem settleCapture_goesOn {c : Capture} (hroom : c.count + 1 < c.capacity) (hl : c.endOnLift = false)
    (hp : c.endOnProxOut = false) (r : Record) (d : Device) : settleCapture (c.receive r) r d = d := by
  have hnone : (c.receive r).endReason r = none :=
    Capture.endReason_none (by simp [Capture.receive, hp]) (by simp [Capture.receive, hl]) (Nat.ne_of_lt hroom)
  rw [settleCapture, hnone]

/-- A drain with one free entry: the oldest record goes to the one capture, which takes its channel, and goes on. -/
theorem drainWalk_fills {d : Device} {r : Record} {more : List Record} {c : Capture} (hh : d.link.halted = false)
    (hr : d.delivery.holding = r :: more) (hc : d.delivery.captures = [c]) (hch : c.mask.get r.ch = true)
    (hbuf : d.link.buffer.length = 3) (hroom : c.count + 1 < c.capacity) (hl : c.endOnLift = false)
    (hp : c.endOnProxOut = false) : drainWalk d = { d with
      link := { d.link with buffer := d.link.buffer ++ [recordWrite c r] }
      delivery := { holding := more, captures := [c.receive r] }
      counters := { d.counters with delivered := d.counters.delivered.bump r.ch } } := by
  let x : Device := { d with
    link := { d.link with buffer := d.link.buffer ++ [recordWrite c r] }
    delivery := { d.delivery with captures := [c.receive r] }
    counters := { d.counters with delivered := d.counters.delivered.bump r.ch } }
  have hplaced : placeIn c r d = x := by
    rw [placeIn, settleCapture_goesOn hroom hl hp]
    simp [x, putCapture, countDelivered, enterBuffer, hc, Capture.receive]
  have htakes : firstTaking d.delivery.captures r.ch = some c := by simp [firstTaking, hc, Capture.takes, hch]
  have hfree : d.link.free = true := by simp [LinkPort.free, hbuf]
  have hunblocked : ({ a := false, b := false } : PerChannel Bool).get r.ch = false := by cases r.ch <;> rfl
  have hgo : drainGo (r :: more) { a := false, b := false } d = (more, x) := by
    rw [drainGo, if_neg (by simp [hunblocked]), htakes]
    simp only
    rw [if_pos hfree, hplaced, drainGo_full (by simp [x, hbuf])]
  rw [drainWalk, if_neg (by simp [hh]), hr, hgo]
  rfl

/-! ### A slot write and a trace frame (R138, R151, R162) -/

/-- The oldest slot write in the buffer; a DONE write clears its slot's mark. -/
theorem enterSlotWrite_eq (v : HostWrite) (q : List HostWrite) (d : Device) : enterSlotWrite v q d = { d with
    link := { d.link with slotQueue := q, buffer := d.link.buffer ++ [v] }
    intake := { d.intake with inFlight := match v.role with
      | .done slot _ => d.intake.inFlight.filter fun x => x.slot != slot
      | _ => d.intake.inFlight } } := by
  obtain ⟨role, addr, data⟩ := v
  cases role <;> rfl

theorem grantBelowDrain_frame {d : Device} {j : TraceJob} {fr : TraceFrame} {more : List TraceFrame}
    (hq : d.link.slotQueue = []) (hj : d.trace = some j) (hs : j.staging = fr :: more) :
    grantBelowDrain d = some (stageOut j fr more d) := by
  simp only [grantBelowDrain, hq, hj, hs]

/-- A trace once its oldest staged frame has entered the buffer. -/
def TraceJob.staged (j : TraceJob) (more : List TraceFrame) : TraceJob :=
  { j with staging := more, written := j.written + 1 }

/-- With a frame staged or to take the trace goes on. -/
theorem stageOut_goesOn {j : TraceJob} {more : List TraceFrame} (h : more ≠ [] ∨ j.toTake ≠ 0) (fr : TraceFrame)
    (d : Device) : stageOut j fr more d = { enterBuffer (traceWrite j fr) d with trace := some (j.staged more) } := by
  refine (if_neg ?_).trans rfl
  simpa [← not_and_or] using h

/-- The last frame completes the trace. -/
theorem stageOut_last {j : TraceJob} (h : j.toTake = 0) (fr : TraceFrame) (d : Device) :
    stageOut j fr [] d = completeSlot j.slot .ok (if j.channelOff then .channelOff else .none) (j.staged []).fields
      { enterBuffer (traceWrite j fr) d with trace := none } :=
  (if_pos (by simp [h])).trans rfl

/-! ### The counter block (R185, R200) -/

/-- The bytes of a number within their range hold it. -/
theorem leValue_le (n : Nat) : ∀ {v : Nat}, v < 256 ^ n → leValue (le n v) = v := by
  induction n with
  | zero => intro v h; simp at h; simp [h, le, leValue]
  | succ n ih =>
    intro v h
    have hdiv : v / 256 < 256 ^ n := by rw [Nat.div_lt_iff_lt_mul (by decide), ← Nat.pow_succ]; exact h
    rw [le, leValue, ih hdiv, BitVec.toNat_ofNat]
    omega

theorem length_le (n : Nat) : ∀ v, (le n v).length = n := by
  induction n with
  | zero => intro v; rfl
  | succ n ih => intro v; simp [le, ih]

/-- The words of a block of 32-bit words stand 4 bytes apart. -/
theorem flatMap_le_word (l : List (BitVec 32)) : ∀ n < l.length,
    leValue (((l.flatMap fun v => le 4 v.toNat).drop (4 * n)).take 4) = (l.getD n 0).toNat := by
  induction l with
  | nil => intro n h; exact absurd h (Nat.not_lt_zero n)
  | cons v l ih =>
    intro n h
    have hlen : (le 4 v.toNat).length = 4 := length_le 4 _
    cases n with
    | zero =>
      rw [List.flatMap_cons, Nat.mul_zero, List.drop_zero, List.take_left' hlen, leValue_le 4 v.isLt]
      rfl
    | succ n =>
      have hdrop : 4 * (n + 1) = (le 4 v.toNat).length + 4 * n := by omega
      rw [List.flatMap_cons, hdrop, List.drop_length_add_append, ih n (by simpa using h)]
      rfl

/-- The counter block: 64 bytes, each counter at its place (R184, R200). -/
theorem Counters.image_words (c : Counters) : c.image.length = 64
    ∧ ∀ n < 16, leValue ((c.image.drop (4 * n)).take 4) = (c.list.getD n 0).toNat :=
  ⟨rfl, flatMap_le_word c.list⟩

/-- The write of the counter block. -/
def countersBlock (dest : Addr) (c : Counters) : HostWrite := { role := .bulk, addr := dest, data := c.image }

/-- COUNTERS copies its block, clears and completes in one event (R185). -/
theorem bulkCounters_eq {d : Device} {slot : Fin 32} {dest : Addr} {clear : Bool}
    (he : d.exec = some { slot := slot, work := .counters dest clear }) :
    bulkCounters dest clear d = completeSlot slot .ok .none (countersFields clear d.clock)
      { enterBuffer (countersBlock dest d.counters) d with
        exec := none, counters := if clear then Counters.zero else d.counters } := by
  cases clear <;> simp [bulkCounters, completePost, enterBuffer, he, countersBlock]

theorem bulkGrant_counters {d : Device} {slot : Fin 32} {dest : Addr} {clear : Bool}
    (he : d.exec = some { slot := slot, work := .counters dest clear }) :
    bulkGrant d = some (bulkCounters dest clear d) := by
  simp only [bulkGrant, he]

/-- A completion behind a full buffer: the result and DONE writes wait. -/
theorem completeSlot_queued {d : Device} (h : d.link.slotQueue = []) (slot : Fin 32) (st : Status) (dt : Detail)
    (fs : List Byte) : completeSlot slot st dt fs d = { d with link := { d.link with
      slotQueue := [resultWrite (d.markOf slot) st dt fs, doneWrite (d.markOf slot)] } } := by
  simp [completeSlot, handOver, h]

/-! ### The class that takes the one free entry (R163) -/

section
variable {d : Device} (hc : d.link.canIssue = true) (hi : d.link.issued = false) (hroom : d.link.buffer.length = 3)
include hc hi hroom

/-- A drain fills the entry with the oldest held record. -/
theorem settleLink_record {r : Record} {more : List Record} {c : Capture} (hh : d.link.halted = false)
    (hr : d.delivery.holding = r :: more) (hcap : d.delivery.captures = [c]) (hch : c.mask.get r.ch = true)
    (hcount : c.count + 1 < c.capacity) (hl : c.endOnLift = false) (hp : c.endOnProxOut = false) :
    settleLink d = Device.headed { d with
      delivery := { holding := more, captures := [c.receive r] }
      counters := { d.counters with delivered := d.counters.delivered.bump r.ch } }
      (d.link.buffer ++ [recordWrite c r]) := by
  have hoffer : offerDrain d = drainWalk d := by rw [offerDrain, if_pos (by simp [LinkPort.free, hroom])]
  rw [drainWalk_fills hh hr hcap hch hroom hcount hl hp] at hoffer
  rw [settleLink, grants, grantEntries, hoffer, grantOne, if_neg (by simp [LinkPort.free, hroom])]
  exact issueHead_headed hc hi

variable (hh : d.delivery.holding = [])
include hh

/-- An entry that the drain leaves goes to one class below it. -/
theorem settleLink_fills {x : Device} {v : HostWrite} (hbelow : grantBelowDrain d = some x)
    (hx : ∃ q, x.link = { d.link with buffer := d.link.buffer ++ [v], slotQueue := q }) :
    settleLink d = x.headed (d.link.buffer ++ [v]) := by
  obtain ⟨q, hx⟩ := hx
  have hfull : x.link.buffer.length = 4 := by simp [hx, hroom]
  rw [settleLink, grants, grantEntries_below (.inl hh) (by omega) hbelow, grantEntries_full hfull,
    issueHead_headed (by rw [hx]; exact hc) (by rw [hx]; exact hi), hx]

/-- The oldest slot write. -/
theorem settleLink_slotWrite {v : HostWrite} {q : List HostWrite} (hq : d.link.slotQueue = v :: q) :
    settleLink d = (enterSlotWrite v q d).headed (d.link.buffer ++ [v]) :=
  settleLink_fills hc hi hroom hh (by rw [grantBelowDrain, hq]) ⟨q, by rw [enterSlotWrite_eq]⟩

variable (hq : d.link.slotQueue = [])
include hq

/-- The oldest staged frame of a trace that goes on. -/
theorem settleLink_frame {j : TraceJob} {fr : TraceFrame} {more : List TraceFrame} (hj : d.trace = some j)
    (hs : j.staging = fr :: more) (hgo : more ≠ [] ∨ j.toTake ≠ 0) :
    settleLink d = Device.headed { d with trace := some (j.staged more) } (d.link.buffer ++ [traceWrite j fr]) :=
  (settleLink_fills hc hi hroom hh ((grantBelowDrain_frame hq hj hs).trans
    (congrArg some (stageOut_goesOn hgo fr d))) ⟨_, rfl⟩).trans rfl

/-- The last frame of a trace: its result and DONE wait. -/
theorem settleLink_lastFrame {j : TraceJob} {fr : TraceFrame} (hj : d.trace = some j) (hs : j.staging = [fr])
    (hnone : j.toTake = 0) : settleLink d = Device.headed (completeSlot j.slot .ok
      (if j.channelOff then .channelOff else .none) (j.staged []).fields { d with trace := none })
      (d.link.buffer ++ [traceWrite j fr]) :=
  (settleLink_fills hc hi hroom hh ((grantBelowDrain_frame hq hj hs).trans
    (congrArg some (stageOut_last hnone fr d))) ⟨_, rfl⟩).trans rfl

variable (hf : ∀ t, d.trace = some t → t.staging = [])
include hf

/-- The last group of a MAP_READ: its result and DONE wait. -/
theorem settleLink_lastGroup {slot : Fin 32} {g : MapReadWork} (he : d.exec = some { slot := slot, work := .mapRead g })
    (hr : g.groupReady = true) (hl : g.done + g.group.length = g.count) :
    settleLink d = Device.headed (completeSlot slot .ok .none g.delivered.fields { d with exec := none })
      (d.link.buffer ++ [g.block]) :=
  (settleLink_fills hc hi hroom hh ((grantBelowDrain_bulk hq hf).trans
    ((bulkGrant_mapRead he hr).trans (congrArg some (bulkMapRead_last he hl)))) ⟨_, rfl⟩).trans rfl

/-- Any other group: the next group's first node is granted. -/
theorem settleLink_group {slot : Fin 32} {g : MapReadWork} (he : d.exec = some { slot := slot, work := .mapRead g })
    (hr : g.groupReady = true) (hl : g.done + g.group.length ≠ g.count) (hg : d.map.grant = none)
    (hw : d.map.solverWaiting = false) (hs : d.map.scrubWaiting = false) :
    settleLink d = Device.headed { d with
      exec := some { slot := slot, work := .mapRead g.delivered }
      map := { d.map with
        grant := some (execGrant d.map.nodes (g.start + g.done + g.group.length)), execWaiting := false, execPass := 0 } }
      (d.link.buffer ++ [g.block]) :=
  (settleLink_fills hc hi hroom hh ((grantBelowDrain_bulk hq hf).trans
    ((bulkGrant_mapRead he hr).trans (congrArg some (bulkMapRead_next he hl hg hw hs)))) ⟨_, rfl⟩).trans rfl

/-- The counter block: its result and DONE wait. -/
theorem settleLink_counters {slot : Fin 32} {dest : Addr} {clear : Bool}
    (he : d.exec = some { slot := slot, work := .counters dest clear }) :
    settleLink d = Device.headed (completeSlot slot .ok .none (countersFields clear d.clock)
      { d with exec := none, counters := if clear then Counters.zero else d.counters })
      (d.link.buffer ++ [countersBlock dest d.counters]) :=
  (settleLink_fills hc hi hroom hh ((grantBelowDrain_bulk hq hf).trans
    ((bulkGrant_counters he).trans (congrArg some (bulkCounters_eq he)))) ⟨_, rfl⟩).trans rfl

end

/-- Settles O45. -/
theorem writeAcceptedFreesHead : Obligations.WriteAcceptedFreesHead := by
  intro s
  refine ⟨fun h => effect_next (f := acceptHead) (acceptHead_none h), ?_⟩
  intro w rest d hbuf hissued hup hmast hacc left next noStrips noFrames mark
  have haccept := acceptHead_accepts hbuf hissued hacc
  obtain ⟨sent, event, msg, hd⟩ := hacc.touches
  have hcan : d.link.canIssue = true := by subst hd; simp [LinkPort.canIssue, hup, hmast]
  subst hd
  have accepted : ∀ {y x : Device}, sweepEntryLeft _ = y → settleLink y = x → next x :=
    fun hy hx => effect_next (f := acceptHead) (by rw [haccept, hy, hx])
  refine ⟨fun hh hq hf hbulk => ?idle, fun hlen hs => ?full⟩
  case idle =>
    have hn : ∀ {x : Device}, x.delivery = s.dev.delivery → x.link.slotQueue = s.dev.link.slotQueue →
        x.trace = s.dev.trace → x.exec = s.dev.exec → x.NoProducer :=
      Device.NoProducer.keep ⟨.inl hh, hq, hf, hbulk⟩
    refine ⟨fun hs => ?none, fun sw n hs hp => ?counts, fun sw hs hp hlive hwait =>
      ⟨fun hfl => ?issued, fun hfl => ?waits⟩⟩
    case none => exact accepted (sweepEntryLeft_none hs) (settleLink_headed (hn rfl rfl rfl rfl) hcan rfl)
    case counts =>
      exact accepted (sweepEntryLeft_counts (by exact hs) hp) (settleLink_headed (hn rfl rfl rfl rfl) hcan rfl)
    case issued =>
      refine accepted ((sweepEntryLeft_reads (by exact hs) hp).trans
        (requestRead_issues _ (by exact hlive) (by exact hwait) (by exact hfl) hcan)) ?_
      exact settleLink_headed (hn rfl rfl rfl rfl) hcan rfl
    case waits =>
      refine accepted ((sweepEntryLeft_reads (by exact hs) hp).trans
        (requestRead_waits _ (by exact hlive) (by exact hwait) (by exact hfl))) ?_
      exact settleLink_headed (hn rfl rfl rfl rfl) hcan rfl
  case full =>
    have granted : ∀ {x : Device}, settleLink _ = x → next x := accepted (sweepEntryLeft_none hs)
    refine ⟨fun r more c hr hlive hc hch hroom hl hp => ?drain, fun hh => ⟨fun v q hq => ?slotWrite, fun hq =>
      ⟨fun j fr more hj hst => ⟨fun hgo => ?frame, fun hlast hnone => ?lastFrame⟩,
        fun hf => ⟨fun slot g he hg hready => ?mapRead, fun slot dest clear he => ?counters⟩⟩⟩⟩
    case drain => exact granted (settleLink_record hcan rfl hlen hlive hr hc hch hroom hl hp)
    case slotWrite =>
      refine granted ((settleLink_slotWrite hcan rfl hlen hh hq).trans ?_)
      rw [enterSlotWrite_eq]
      rfl
    case frame => exact granted (settleLink_frame hcan rfl hlen hh hq hj hst hgo)
    case lastFrame =>
      subst hlast
      refine granted ((settleLink_lastFrame hcan rfl hlen hh hq hj hst hnone).trans ?_)
      rw [completeSlot_queued (by exact hq)]
      rfl
    case mapRead =>
      intro ok block counts ws
      have hr : g.groupReady = true := g.groupReady_iff.2 ⟨hg, hready⟩
      refine ⟨fun hl => ?lastGroup, fun hl hgrant hw hx hsc => ?group⟩
      case lastGroup =>
        have hfields : g.delivered.fields = counts := by
          simp only [MapReadWork.fields, MapReadWork.delivered, hl, counts, ok, countIn]
        refine granted ((settleLink_lastGroup hcan rfl hlen hh hq hf he hr hl).trans ?_)
        rw [completeSlot_queued (by exact hq), hfields]
        rfl
      case group =>
        intro node g' grant
        refine granted ((settleLink_group hcan rfl hlen hh hq hf he hr (Nat.ne_of_lt hl) hgrant hw hsc).trans ?_)
        rw [← hx]
        rfl
    case counters =>
      obtain ⟨hsize, hwords⟩ := s.dev.counters.image_words
      refine ⟨countersBlock dest s.dev.counters, rfl, rfl, hsize, hwords, ?_⟩
      intro fields ws
      have hfields : countersFields clear s.dev.clock = fields := by cases clear <;> rfl
      refine granted ((settleLink_counters hcan rfl hlen hh hq hf he).trans ?_)
      rw [completeSlot_queued (by exact hq), hfields]
      rfl

end Sys2Proof.Machine
end

section
/-!
PROOFS. The bounds of the queues and of the Profile Table: each unit adds only where it has found room, so every command
keeps them (R81, R84, R101, R114, R117, R161).
-/
namespace Sys2Proof.Machine

open Sys2Proof

/-! ### The bounds, as a function of the values they speak of -/

/-- At most 64 records held and at most n captures open, each with room left (R101, R114, R117). -/
structure Delivery.Within (n : Nat) (v : Delivery) : Prop where
  holding : v.holding.length ≤ 64
  captures : v.captures.length ≤ n
  counts : ∀ c ∈ v.captures, c.count < c.capacity

/-- The Executor's post is no PROFILE LOAD that reads its block, and so needs no room in the table. -/
def NoLoad (x : Option CurrentPost) : Prop := ∀ slot key, x ≠ some { slot := slot, work := .profile false key }

/-- The table has an entry with the key, or room for one (R84). -/
def HasRoom (entries : List ProfileEntry) (key : Half) : Prop := (∃ e ∈ entries, e.key = key) ∨ entries.length < 8

/-- The bounds of Device.Bounded on what they depend on, with at most n captures open. -/
structure Limits (n : Nat) (buffer : List HostWrite) (v : Delivery) (entries : List ProfileEntry)
    (x : Option CurrentPost) : Prop where
  buffer : buffer.length ≤ 4
  delivery : v.Within n
  size : entries.length ≤ 8
  room : ∀ slot key, x = some { slot := slot, work := .profile false key } → HasRoom entries key

/-- The part is within the bounds, with at most n captures open. What touches none of the values they depend on keeps it by
the hypothesis itself. -/
def Device.Within (n : Nat) (d : Device) : Prop := Limits n d.link.buffer d.delivery d.profiles.entries d.exec

theorem Device.bounded_iff (d : Device) : d.Bounded ↔ d.Within 16 :=
  ⟨fun h => ⟨h.buffer, ⟨h.holding, h.captures, h.counts⟩, h.entries, h.room⟩,
    fun h => ⟨h.buffer, h.delivery.holding, h.delivery.captures, h.delivery.counts, h.size, h.room⟩⟩

section
variable {m n : Nat} {b : List HostWrite} {v v' : Delivery} {es : List ProfileEntry} {x x' : Option CurrentPost}

theorem Limits.setDelivery (h : Limits n b v es x) (hv : v'.Within m) : Limits m b v' es x :=
  ⟨h.buffer, hv, h.size, h.room⟩

theorem Limits.setExec (h : Limits n b v es x) (hx : NoLoad x') : Limits n b v es x' :=
  ⟨h.buffer, h.delivery, h.size, fun slot key he => absurd he (hx slot key)⟩

theorem Limits.setBuffer {b' : List HostWrite} (h : Limits n b v es x) (hb : b'.length ≤ 4) : Limits n b' v es x :=
  ⟨hb, h.delivery, h.size, h.room⟩

/-- A table with room for any key. -/
theorem Limits.setEntries {es' : List ProfileEntry} (h : Limits n b v es x) (he : es'.length < 8) : Limits n b v es' x :=
  ⟨h.buffer, h.delivery, Nat.le_of_lt he, fun _ _ _ => .inr he⟩

end

theorem noLoad_none : NoLoad none := fun _ _ h => nomatch h

theorem noLoad_some {slot : Fin 32} {w : Work} (hw : ∀ key, w ≠ .profile false key) :
    NoLoad (some { slot := slot, work := w }) :=
  fun _ key h => hw key (congrArg CurrentPost.work (Option.some.inj h))

/-! ### Captures and the Holding Queue -/

section
variable {n : Nat} {v : Delivery}

theorem Delivery.Within.setHolding (h : v.Within n) {q : List Record} (hq : q.length ≤ 64) :
    Delivery.Within n { v with holding := q } :=
  ⟨hq, h.captures, h.counts⟩

/-- Captures that are some of those open, with counts and capacities as they are. -/
theorem Delivery.Within.thin (h : v.Within n) {caps : List Capture} (hs : caps.Sublist v.captures) :
    Delivery.Within n { v with captures := caps } :=
  ⟨h.holding, hs.length_le.trans h.captures, fun c hc => h.counts c (hs.subset hc)⟩

/-- The idle timers as time passes, or as they pause. -/
theorem Delivery.Within.retime (h : v.Within n) {f : Capture → Capture}
    (hf : ∀ c, (f c).count = c.count ∧ (f c).capacity = c.capacity) :
    Delivery.Within n { v with captures := v.captures.map f } := by
  refine ⟨h.holding, (List.length_map f).le.trans h.captures, fun y hy => ?_⟩
  obtain ⟨c, hc, rfl⟩ := List.mem_map.1 hy
  rw [(hf c).1, (hf c).2]
  exact h.counts c hc

/-- A capture that has received a record and has room left (R116). -/
theorem Delivery.Within.put (h : v.Within n) {c : Capture} (hc : c.count < c.capacity) :
    Delivery.Within n { v with captures := v.captures.map fun x => if x.slot = c.slot then c else x } := by
  refine ⟨h.holding, (List.length_map _).le.trans h.captures, fun y hy => ?_⟩
  obtain ⟨x, hx, rfl⟩ := List.mem_map.1 hy
  split
  · exact hc
  · exact h.counts x hx

/-- A capture that has received a record and leaves the queue (R116, R120). -/
theorem Delivery.Within.putAndRemove (h : v.Within n) (c : Capture) :
    Delivery.Within n { v with captures :=
      (v.captures.map fun x => if x.slot = c.slot then c else x).filter fun x => x.slot != c.slot } := by
  refine ⟨h.holding, (List.length_filter_le _ _).trans ((List.length_map _).le.trans h.captures), fun y hy => ?_⟩
  obtain ⟨hy, hslot⟩ := List.mem_filter.1 hy
  obtain ⟨x, hx, rfl⟩ := List.mem_map.1 hy
  split at hslot
  · exact absurd hslot (by simp)
  · next hne => rw [if_neg hne]; exact h.counts x hx

/-- A capture opened where one more has room (R113, R114). -/
theorem Delivery.Within.opened (h : v.Within n) {c : Capture} (hc : c.count < c.capacity) :
    Delivery.Within (n + 1) { v with captures := v.captures ++ [c] } := by
  refine ⟨h.holding, ?_, fun y hy => ?_⟩
  · simpa using h.captures
  · rcases List.mem_append.1 hy with hy | hy
    · exact h.counts y hy
    · rw [List.mem_singleton.1 hy]; exact hc

end

theorem firstTaking_mem {caps : List Capture} {ch : Channel} {c : Capture} (h : firstTaking caps ch = some c) :
    c ∈ caps :=
  List.mem_of_find?_eq_some h

/-- A capture that goes on after a placement is not full (R117). -/
theorem Capture.not_full_of_endReason {c : Capture} {r : Record} (h : c.endReason r = none) : c.count ≠ c.capacity := by
  intro hfull
  rw [Capture.endReason, if_pos hfull] at h
  split at h
  · cases h
  · split at h <;> cases h

theorem splitPlain_eq : ∀ {q before after : List Record} {e : Record}, splitPlain q = some (before, e, after) →
    q = before ++ e :: after := by
  intro q
  induction q with
  | nil => intro _ _ _ h; cases h
  | cons r rs ih =>
    intro before after e h
    unfold splitPlain at h
    split at h
    · cases h; rfl
    · split at h
      · next hs => cases h; rw [ih hs]; rfl
      · cases h

/-- The record evicted stands in the queue (R103). -/
theorem chooseVictim_eq {q before after : List Record} {e : Record} (h : chooseVictim q = some (before, e, after)) :
    q = before ++ e :: after := by
  unfold chooseVictim at h
  split at h
  · next hs => cases h; exact splitPlain_eq hs
  · split at h
    · cases h
    · cases h; rfl

theorem chooseVictim_none {q : List Record} (h : chooseVictim q = none) : q = [] := by
  unfold chooseVictim at h
  split at h
  · cases h
  · split at h
    · rfl
    · cases h

@[simp] theorem length_markOldest (ch : Channel) (q : List Record) : (markOldest ch q).1.length = q.length := by
  induction q with
  | nil => rfl
  | cons r rs ih =>
    unfold markOldest
    split
    · rfl
    · simp [ih]

/-- A drain walk holds no record more (R106). -/
theorem length_drainGo_le (q : List Record) :
    ∀ (b : PerChannel Bool) (d : Device), (drainGo q b d).1.length ≤ q.length := by
  induction q with
  | nil => intro b d; exact le_rfl
  | cons r rest ih =>
    intro b d
    unfold drainGo
    split
    · exact Nat.succ_le_succ (ih _ _)
    · split
      · exact Nat.succ_le_succ (ih _ _)
      · split
        · exact (ih _ _).trans (Nat.le_succ _)
        · exact le_rfl

/-- A CAPTURE that passes its checks has room for a record (R112). -/
theorem newCapture_room {p : CaptureParams} (h : captureReject p = none) (slot : Fin 32) :
    (newCapture slot p).count < (newCapture slot p).capacity := by
  have hcap : p.capacity.toNat ≠ 0 := by
    intro h0
    rw [captureReject, if_pos (BitVec.eq_of_toNat_eq h0)] at h
    cases h
  show 0 < min p.capacity.toNat 4096
  omega

/-! ### The Profile Table -/

theorem Profiles.holds_iff (ps : Profiles) (key : Half) : ps.holds key = true ↔ ∃ e ∈ ps.entries, e.key = key := by
  simp [Profiles.holds]

/-- A replaced entry leaves the table's length, and a new one makes it one longer (R87). -/
theorem length_loadEntry_le (key : Half) (p : Profile) {es : List ProfileEntry} (h : es.length ≤ 8)
    (hr : HasRoom es key) : (loadEntry key p es).1.length ≤ 8 := by
  have hgrows : ∀ es : List ProfileEntry, (loadEntry key p es).1.length ≤ es.length + 1 := by
    intro es
    induction es with
    | nil => exact le_rfl
    | cons e rest ih =>
      unfold loadEntry
      split
      · exact Nat.le_succ _
      · exact Nat.succ_le_succ ih
  have hheld : ∀ es : List ProfileEntry, (∃ e ∈ es, e.key = key) → (loadEntry key p es).1.length = es.length := by
    intro es
    induction es with
    | nil => rintro ⟨e, he, -⟩; cases he
    | cons e rest ih =>
      rintro ⟨x, hx, hk⟩
      unfold loadEntry
      split
      · rfl
      · next hne =>
        rcases List.mem_cons.1 hx with rfl | hx
        · exact absurd hk hne
        · exact congrArg Nat.succ (ih ⟨x, hx, hk⟩)
  rcases hr with hr | hr
  · exact (hheld es hr).le.trans h
  · exact (hgrows es).trans hr

end Sys2Proof.Machine
end

section
/-!
PROOFS. Every operation of the units, and so every command, keeps the part within its bounds (R81, R84, R101, R106, R114,
R117, R161 to R163).
-/
namespace Sys2Proof.Machine

open Sys2Proof

namespace Device.Within

variable {n : Nat} {d : Device}

/-! ### EVENT, the buffer and the Executor's post -/

theorem of_same {d' : Device} (h : d.Within n) (hl : d'.link = d.link) (hd : d'.delivery = d.delivery)
    (hp : d'.profiles = d.profiles) (he : d'.exec = d.exec) : d'.Within n := by
  rw [Device.Within, hl, hd, hp, he]; exact h

theorem setEventMask (h : d.Within n) (event mask : BitVec 4) : (setEventMask event mask d).Within n := by
  obtain ⟨sent, msg, ht⟩ := testInterrupt_frame d.regs.condition
    { d with regs := { d.regs with event := event, mask := mask } }
  rw [Machine.setEventMask, ht]; exact h

theorem setCause (h : d.Within n) (c : Cause) : (setCause c d).Within n := h.setEventMask _ _

theorem sendPending (h : d.Within n) : (sendPending d).Within n := by
  unfold Machine.sendPending; split <;> exact h

/-- A write enters where the buffer has a free entry (R161). -/
theorem enterBuffer (h : d.Within n) (hf : d.link.free = true) (w : HostWrite) : (enterBuffer w d).Within n := by
  refine Limits.setBuffer h ?_
  rw [enterBuffer_buffer, List.length_append]
  exact Nat.succ_le_of_lt (of_decide_eq_true hf)

theorem idle (h : d.Within n) : Device.Within n { d with exec := none } := Limits.setExec h noLoad_none

/-- The Executor takes a post that reads no profile block. -/
theorem setCurrent (h : d.Within n) (slot : Fin 32) {w : Work} (hw : ∀ key, w ≠ .profile false key) :
    (setCurrent slot w d).Within n := Limits.setExec h (noLoad_some hw)

theorem setWork (h : d.Within n) {w : Work} (hw : ∀ key, w ≠ .profile false key) : (setWork w d).Within n := by
  refine Limits.setExec h ?_
  show NoLoad (d.exec.map fun p => { p with work := w })
  cases d.exec with
  | none => exact noLoad_none
  | some p => exact noLoad_some hw

theorem completePost (h : d.Within n) (st : Status) (dt : Detail) (fs : List Byte) :
    (completePost st dt fs d).Within n := by
  unfold Machine.completePost
  split
  · exact h
  · exact h.idle

/-! ### The map port -/

theorem noteRead (h : d.Within n) (node : Nat) (r : NodeRead) (who : Requester) : (noteRead node r who d).Within n := by
  have hc : (countOutcome r.outcome d).Within n := by cases r.outcome <;> exact h
  unfold Machine.noteRead offerLog
  split
  · exact hc
  · split
    · exact hc
    · exact setCause (by exact hc) .mapErr

theorem arbitrate (h : d.Within n) : (arbitrate d).Within n := by
  obtain ⟨m, hm⟩ := arbitrate_frame d
  rw [hm]; exact h

theorem requestExec (h : d.Within n) : (requestExec d).Within n := arbitrate (by exact h)

theorem requestSolver (h : d.Within n) : (requestSolver d).Within n := arbitrate (by exact h)

theorem answerScrub (h : d.Within n) (g : Grant) : (answerScrub g d).Within n := noteRead (by exact h) _ _ _

theorem answerExec (h : d.Within n) (g : Grant) : (answerExec g d).Within n := by
  unfold Machine.answerExec
  split
  · exact (h.noteRead _ _ _).setWork (w := .mapLoad _) (fun _ => nofun)
  · have hc : ∀ o, (countOutcome o d).Within n := fun o => by cases o <;> exact h
    exact (hc _).setWork (w := .mapRead _) (fun _ => nofun)
  · exact h

theorem bulkGrant {d' : Device} (h : d.Within n) (hf : d.link.free = true) (hg : bulkGrant d = some d') :
    d'.Within n := by
  unfold Machine.bulkGrant at hg
  split at hg
  · split at hg
    · obtain rfl := Option.some.inj hg
      have hw : ∀ w w', (Machine.enterBuffer w (Machine.setWork (.mapRead w') d)).Within n := fun w w' =>
        (h.setWork (w := .mapRead w') (fun _ => nofun)).enterBuffer hf w
      unfold bulkMapRead
      simp only
      split
      · exact (hw _ _).completePost _ _ _
      · exact (hw _ _).requestExec
    · cases hg
  · obtain rfl := Option.some.inj hg
    unfold bulkCounters
    refine completePost ?_ _ _ _
    split <;> exact h.enterBuffer hf _
  · cases hg

/-! ### The Delivery Unit -/

theorem setHolding (h : d.Within n) {q : List Record} (hq : q.length ≤ 64) : (setHolding q d).Within n :=
  Limits.setDelivery h (h.delivery.setHolding hq)

theorem completeCapture (h : d.Within n) (c : Capture) (reason : Reason) : (completeCapture c reason d).Within n :=
  Limits.setDelivery h (h.delivery.thin List.filter_sublist)

/-- A record placed in an open capture: the buffer has a free entry, and the capture goes on only short of its capacity
(R99, R117). -/
theorem placeIn (h : d.Within n) (hf : d.link.free = true) {c : Capture} (hc : c ∈ d.delivery.captures) (r : Record) :
    (placeIn c r d).Within n := by
  have hb := h.enterBuffer hf (recordWrite c r)
  have hroom := h.delivery.counts c hc
  unfold Machine.placeIn settleCapture
  split
  · exact Limits.setDelivery hb (h.delivery.putAndRemove (c.receive r))
  · next hgoes =>
    refine Limits.setDelivery hb (h.delivery.put (c := c.receive r) ?_)
    exact lt_of_le_of_ne hroom (Capture.not_full_of_endReason hgoes)

theorem drainGo (q : List Record) : ∀ (b : PerChannel Bool) {d : Device}, d.Within n → (drainGo q b d).2.Within n := by
  induction q with
  | nil => intro b d h; exact h
  | cons r rest ih =>
    intro b d h
    unfold Machine.drainGo
    split
    · exact ih _ h
    · split
      · exact ih _ h
      · next hc =>
        split
        · next hf => exact ih _ (h.placeIn hf (firstTaking_mem hc) r)
        · exact h

theorem drainWalk (h : d.Within n) : (drainWalk d).Within n := by
  unfold Machine.drainWalk
  split
  · exact h
  · exact (drainGo _ _ h).setHolding ((length_drainGo_le _ _ _).trans h.delivery.holding)

theorem joinHolding (h : d.Within n) (hl : d.delivery.holding.length < 64) (r : Record) : (joinHolding r d).Within n := by
  have hj : (setGap r.ch false (Machine.setHolding (d.delivery.holding ++ [gapApplied r d]) d)).Within n :=
    h.setHolding (by simpa using hl)
  unfold Machine.joinHolding
  simp only
  split
  · exact hj.setCause _
  · exact hj

/-- An eviction makes room for a record (R103). -/
theorem evict (h : d.Within n) : (evict d).Within n ∧ (evict d).delivery.holding.length < 64 := by
  unfold Machine.evict
  split
  · next hv => exact ⟨h, by rw [chooseVictim_none hv]; decide⟩
  · next before e after hv =>
    have hlen : (before ++ (markOldest e.ch after).1).length < d.delivery.holding.length := by
      simp [chooseVictim_eq hv]
    have hq : (countLost e.ch (Machine.setHolding (before ++ (markOldest e.ch after).1) d)).Within n :=
      h.setHolding (hlen.le.trans h.delivery.holding)
    have hheld : ∀ x : Device, x.delivery.holding = before ++ (markOldest e.ch after).1 → x.Within n →
        (Machine.setCause .hold x).Within n ∧ (Machine.setCause .hold x).delivery.holding.length < 64 := by
      intro x hx hw
      obtain ⟨_, _, hframe⟩ := setCause_frame .hold x
      refine ⟨hw.setCause _, ?_⟩
      rw [hframe]
      exact hx ▸ hlen.trans_le h.delivery.holding
    simp only
    split
    · exact hheld _ rfl hq
    · exact hheld _ rfl hq

theorem appendHolding (h : d.Within n) (r : Record) : (appendHolding r d).Within n := by
  unfold Machine.appendHolding
  split
  · next hl => exact h.joinHolding hl r
  · split
    · exact setCause (by exact h) _
    · exact h.evict.1.joinHolding h.evict.2 r

theorem deliver (h : d.Within n) (r : Record) : (deliver r d).Within n := by
  unfold Machine.deliver
  split
  · next c hc =>
    split
    · next hplace =>
      have hf : d.link.free = true := (Bool.and_eq_true_iff.1 hplace).2
      exact placeIn (d := setGap r.ch false d) h hf (firstTaking_mem hc) _
    · exact h.appendHolding r
  · exact h.appendHolding r

/-! ### The Link Port -/

theorem grantOne {d' : Device} (h : d.Within n) (hg : grantOne d = some d') : d'.Within n := by
  unfold Machine.grantOne at hg
  split at hg
  · next hf =>
    unfold grantBelowDrain at hg
    split at hg
    · obtain rfl := Option.some.inj hg
      unfold enterSlotWrite
      simp only
      split <;> exact h.enterBuffer hf _
    · split at hg
      · split at hg
        · obtain rfl := Option.some.inj hg
          unfold stageOut
          simp only
          split <;> exact h.enterBuffer hf _
        · exact h.bulkGrant hf hg
      · exact h.bulkGrant hf hg
  · cases hg

theorem grantEntries (k : Nat) : ∀ {d : Device}, d.Within n → (grantEntries k d).Within n := by
  induction k with
  | zero => intro d h; exact h
  | succ k ih =>
    intro d h
    have hd : (offerDrain d).Within n := by
      unfold offerDrain
      split
      · exact h.drainWalk
      · exact h
    unfold Machine.grantEntries
    split
    · next hg => exact ih (hd.grantOne hg)
    · exact hd

theorem grants (h : d.Within n) : (grants d).Within n := grantEntries 4 h

theorem faultExec (h : d.Within n) : (faultExec d).Within n := by
  have hf : (finishExecGrant d).Within n := by
    unfold finishExecGrant
    split
    · split
      · exact h.answerExec _
      · exact h
    · exact h
  unfold Machine.faultExec
  split
  · exact h
  · unfold failExec
    split
    · exact hf
    · exact (completePost (by exact hf) _ _ _).arbitrate

/-- An idle timer that pauses keeps its capture's count (R119). -/
theorem pauseTimers (h : d.Within n) : (pauseTimers d).Within n := by
  refine Limits.setDelivery h (h.delivery.retime fun c => ?_)
  unfold Capture.pause
  split <;> exact ⟨rfl, rfl⟩

theorem enterHalted (h : d.Within n) : (enterHalted d).Within n := by
  have he : (Machine.faultExec (faultSweep
      { d with link := { d.link with halted := true, inFlight := none, waiting := [] } })).Within n :=
    faultExec (by exact h)
  refine grants ?_
  unfold faultTrace
  split <;> exact he.pauseTimers

theorem raiseFault (h : d.Within n) (cls : FaultClass) (site : Site) (slot : Option (Fin 32)) :
    (raiseFault cls site slot d).Within n := by
  refine enterHalted (setCause ?_ .fault)
  unfold recordFault
  split <;> exact h

theorem raiseBlocked (h : d.Within n) (site : Site) (slot : Option (Fin 32)) : (raiseBlocked site slot d).Within n := by
  refine raiseFault ?_ _ _ _
  unfold blockedClass
  split
  · exact h
  · split <;> exact h

theorem settleLink (h : d.Within n) : (settleLink d).Within n := by
  unfold Machine.settleLink issueHead
  split
  · exact h.grants
  · split
    · exact h.grants
    · split
      · exact h.grants
      · exact h.grants.raiseBlocked _ _

theorem pumpReads (h : d.Within n) : (pumpReads d).Within n := by
  unfold Machine.pumpReads
  split
  · exact h
  · split
    · exact h
    · unfold issueRead
      split
      · exact h
      · exact raiseBlocked (by exact h) _ _

theorem requestRead (h : d.Within n) (r : ReadReq) : (requestRead r d).Within n := by
  unfold Machine.requestRead
  split
  · exact h
  · exact pumpReads (by exact h)

theorem afterRead (h : d.Within n) : (afterRead d).Within n := h.pumpReads.settleLink

/-! ### The Scan Engine and the Channel Tracker -/

theorem produce (h : d.Within n) (r : Record) : (produce r d).Within n := (deliver (by exact h) r).settleLink

theorem finishStep (h : d.Within n) (ch : Channel) (f : FrameResults) (prox : Nat) (ev : RecEvent) (pressure : Nat) :
    (finishStep ch f prox ev pressure d).Within n := by
  refine settleLink ?_
  unfold receiveTraceFrame
  split
  · exact h
  · split
    · exact h
    · simp only
      split
      · split
        · exact h
        · split <;> exact h
      · split <;> exact h

theorem finishJob (h : d.Within n) (j : SolverJob) (noMap : Bool) : (finishJob j noMap d).Within n :=
  (produce (by exact h) _).finishStep _ _ _ _ _

theorem stepChannel (h : d.Within n) (ch : Channel) (f : FrameResults) : (stepChannel ch f d).1.Within n := by
  unfold Machine.stepChannel
  extract_lets c0 c1 counted res c2
  have hcounted : counted.Within n := by simp only [counted]; split <;> exact h
  have hset : ∀ c, (counted.setCtx ch c).Within n := fun _ => hcounted
  clear_value counted res c2
  split
  · dsimp only
    exact (hset _).finishStep _ _ _ _ _
  · have hp : (produceProxOut ch f.timeTag f.slipped (counted.setCtx ch c2)).Within n := produce (hset _) _
    dsimp only
    exact finishStep (by exact hp) _ _ _ _ _
  · split
    · dsimp only
      exact (hset _).finishStep _ _ _ _ _
    · extract_lets job begun
      split
      · dsimp only
        exact (hset _).finishJob _ _
      · exact hset _

theorem toIdle (h : d.Within n) (ch : Channel) : (toIdle ch d).Within n := by
  unfold Machine.toIdle
  split
  · exact h
  · refine settleLink ?_
    unfold traceChannelOff
    split
    · exact h
    · split
      · exact h
      · split <;> exact h

theorem leaveTracking (h : d.Within n) (ch : Channel) (tag : Micros) (slip : Bool) :
    (leaveTracking ch tag slip d).Within n := by
  unfold Machine.leaveTracking
  split
  · exact h.produce _
  · exact h

theorem disableChannel (h : d.Within n) (ch : Channel) (want : Bool) (tag : Micros) :
    (disableChannel ch want tag d).Within n := by
  unfold Machine.disableChannel
  split
  · exact h
  · exact (h.leaveTracking _ _ _).toIdle _

theorem applySetup (h : d.Within n) (slot : Fin 32) (p : ScanSetupParams) (tag : Micros) (running : Bool) :
    (applySetup slot p tag running d).Within n := by
  have hset : (applySettings p tag running d).Within n := by
    refine (disableChannel ?_ .a _ tag).disableChannel .b _ tag
    split <;> exact h
  exact settleLink hset

theorem applyWaiting (h : d.Within n) (tag : Micros) (running : Bool) : (applyWaiting tag running d).Within n := by
  unfold Machine.applyWaiting
  split
  · exact h.idle.applySetup _ _ _ _
  · exact h

theorem startFrame (h : d.Within n) : (startFrame d).Within n := by
  rw [startFrame_eq]
  exact h.applyWaiting d.clock true

theorem stopEngine (h : d.Within n) (f : Frame) : (stopEngine f d).Within n := by
  unfold Machine.stopEngine
  extract_lets left idled
  have hleft : left.Within n := (h.leaveTracking .a f.timeTag f.slipped).leaveTracking .b f.timeTag f.slipped
  have hidled : idled.Within n := (hleft.toIdle .a).toIdle .b
  clear_value idled
  exact applyWaiting (by exact hidled) _ _

theorem runSteps (todo : List Channel) (f : Frame) (realign : Bool) :
    ∀ {d : Device}, d.Within n → (runSteps todo f realign d).1.Within n := by
  induction todo with
  | nil => intro d h; exact h
  | cons ch rest ih =>
    intro d h
    unfold Machine.runSteps
    split
    · exact ih h
    · simp only
      split
      · exact ih (h.stepChannel _ _)
      · exact requestSolver (by exact h.stepChannel _ _)

theorem closeBoundary (h : d.Within n) (f : Frame) (realign : Bool) : (closeBoundary f realign d).Within n := by
  unfold Machine.closeBoundary
  extract_lets run counted next
  have hnext : next.Within n := by
    simp only [next]
    split
    · exact startFrame (by exact h)
    · exact stopEngine (by exact h) f
  clear_value next
  split
  · split <;> exact hnext
  · exact hnext

theorem goBoundary (h : d.Within n) (todo : List Channel) (f : Frame) (realign : Bool) :
    (goBoundary todo f realign d).Within n := by
  unfold Machine.goBoundary
  simp only
  split
  · exact (runSteps todo f realign h).closeBoundary f realign
  · exact runSteps todo f realign h

theorem takeArrival (h : d.Within n) (t : Nat) : (takeArrival t d).Within n := by
  unfold Machine.takeArrival
  split
  · split
    · exact goBoundary (by exact h) _ _ _
    · rw [measureArrival_eq]; exact h
  · exact h

theorem takeArrivals (ts : List Nat) : ∀ (base : Nat) {d : Device}, d.Within n → (takeArrivals base ts d).Within n := by
  induction ts with
  | nil => intro base d h; exact h
  | cons t ts ih =>
    intro base d h
    unfold Machine.takeArrivals
    simp only
    split
    · exact h.takeArrival _
    · exact ih _ (h.takeArrival _)

theorem afterBoundary (h : d.Within n) : (afterBoundary d).Within n := by
  unfold Machine.afterBoundary
  split
  · exact h
  · exact takeArrivals _ _ (by exact h)

/-! ### Sweeps -/

theorem startSweep (h : d.Within n) : (startSweep d).Within n := by
  unfold Machine.startSweep
  simp only
  split
  · exact requestRead (by exact h) _
  · exact h

theorem endSweep (h : d.Within n) : (endSweep d).Within n := by
  unfold Machine.endSweep
  simp only
  split
  · exact startSweep (by exact h)
  · exact h

theorem sweepDone (h : d.Within n) : (sweepDone d).Within n := by
  unfold Machine.sweepDone
  split
  · exact h
  · exact h.endSweep

theorem sweepEntryLeft (h : d.Within n) : (sweepEntryLeft d).Within n := by
  unfold Machine.sweepEntryLeft
  split
  · split
    · split
      · exact requestRead (by exact h) _
      · exact h
    · exact h
  · exact h

theorem rejectSlot (h : d.Within n) (m : SlotMark) (dt : Detail) : (rejectSlot m dt d).Within n := settleLink (by exact h)

/-- A slot that is taken, when the handing on of its post keeps the bounds or raises the captures' one. -/
theorem takeSlot {k : Nat} {handOn : Device → Device} (h : d.Within n)
    (hf : ∀ {x : Device}, x.Within n → (handOn x).Within k) (m : SlotMark) : (takeSlot m handOn d).Within k :=
  settleLink (by exact hf (grants (by exact h)))

theorem walk (slots : List (Fin 32)) : ∀ {d : Device}, d.Within n → (walk slots d).Within n := by
  induction slots with
  | nil => intro d h; exact h.sweepDone
  | cons slot rest ih =>
    intro d h
    unfold Machine.walk
    split
    · exact h
    · split
      · exact h.endSweep
      · split
        · exact ih h
        · simp only
          split
          · exact ih (h.rejectSlot _ _)
          · exact (h.rejectSlot _ _).sweepDone
        · exact requestRead (by exact h) _

/-! ### The Executor's posts -/

theorem finishMapLoad (h : d.Within n) (w : MapLoadWork) : (finishMapLoad w d).Within n := by
  refine completePost ?_ _ _ _
  split <;> exact h

theorem beginMapLoad (h : d.Within n) (slot : Fin 32) (p : MapParams) : (beginMapLoad slot p d).Within n := by
  have hc : ∀ w, (Machine.setCurrent slot (.mapLoad w) (if p.flags.getLsbD 0 then clearMap d else d)).Within n := by
    intro w
    rw [clearMap_if]
    exact setCurrent (by exact h) slot (fun _ => nofun)
  unfold Machine.beginMapLoad
  split
  · exact h
  · simp only
    split
    · exact (hc _).finishMapLoad _
    · exact (hc _).requestRead _

theorem beginMapRead (h : d.Within n) (slot : Fin 32) (p : MapParams) : (beginMapRead slot p d).Within n := by
  unfold Machine.beginMapRead
  split
  · exact h
  · exact (h.setCurrent slot (w := .mapRead _) (fun _ => nofun)).requestExec

/-- A LOAD reads its block only where the table has the key or room for it (R84). -/
theorem beginProfileLoad (h : d.Within n) (slot : Fin 32) (p : ProfileParams) : (beginProfileLoad slot p d).Within n := by
  unfold Machine.beginProfileLoad
  split
  · exact h
  · split
    · exact h
    · split
      · exact h
      · next hpass =>
        have hroom : HasRoom d.profiles.entries p.key := by
          by_cases hheld : d.profiles.holds p.key = true
          · exact .inl ((Profiles.holds_iff _ _).1 hheld)
          · exact .inr (by simpa [hheld] using hpass)
        have hexec : (Machine.setCurrent slot (.profile false p.key) d).Within n := by
          refine ⟨h.buffer, h.delivery, h.size, fun slot' key he => ?_⟩
          obtain ⟨-, hkey⟩ : slot = slot' ∧ p.key = key := by simpa [Machine.setCurrent] using he
          exact hkey ▸ hroom
        exact hexec.requestRead _

/-- An entry that goes leaves room (R88). -/
theorem beginProfileRemove (h : d.Within n) (slot : Fin 32) (p : ProfileParams) :
    (beginProfileRemove slot p d).Within n := by
  unfold Machine.beginProfileRemove
  split
  · exact h
  · split
    · exact h
    · next e he =>
      refine Limits.setEntries h (Nat.lt_of_lt_of_le ?_ h.size)
      have hkey : e.key = p.key := by simpa using List.find?_some he
      exact List.length_filter_lt_length_iff_exists.2 ⟨e, List.mem_of_find?_eq_some he, by simp [hkey]⟩

theorem beginProfile (h : d.Within n) (slot : Fin 32) (p : ProfileParams) : (beginProfile slot p d).Within n := by
  unfold Machine.beginProfile
  split
  · exact h.beginProfileLoad slot p
  · exact h.beginProfileRemove slot p
  · exact Limits.setEntries h (Nat.zero_lt_succ 7)
  · unfold beginProfileDefault
    split
    · exact h
    · exact requestRead (h.setCurrent slot (w := .profile true p.key) (fun _ => nofun)) _
  · exact h

theorem cancelEach (caps : List Capture) : ∀ {d : Device}, d.Within n → (cancelEach caps d).Within n := by
  induction caps with
  | nil => intro d h; exact h
  | cons c rest ih => intro d h; exact ih (h.completeCapture c .cancelled)

theorem cancelTraceAt (h : d.Within n) (target : Fin 32) : (cancelTraceAt target d).1.Within n := by
  unfold Machine.cancelTraceAt
  split
  · split <;> exact h
  · exact h

theorem cancelBySlot (h : d.Within n) (slot target : Fin 32) : (cancelBySlot slot target d).Within n := by
  unfold Machine.cancelBySlot
  split
  · next c _ => exact h.completeCapture c .cancelled
  · have hs := (h.setCurrent slot (w := .cancelSlot target) (fun _ => nofun)).settleLink
    unfold cancelSecond
    split
    · exact hs.idle.cancelTraceAt target
    · exact hs

theorem beginCancel (h : d.Within n) (slot : Fin 32) (p : CancelParams) : (beginCancel slot p d).Within n := by
  unfold Machine.beginCancel
  split
  · split
    · exact cancelEach _ h
    · exact h
  · unfold cancelHeldTrace
    split <;> exact h
  · split
    · exact h.cancelBySlot _ _
    · exact h
  · exact h

theorem beginScanSetup (h : d.Within n) (slot : Fin 32) (p : ScanSetupParams) : (beginScanSetup slot p d).Within n := by
  unfold Machine.beginScanSetup
  split
  · exact h
  · split
    · exact h.applySetup _ _ _ _
    · exact h.setCurrent slot (w := .scanSetup p) (fun _ => nofun)

theorem beginCounters (h : d.Within n) (slot : Fin 32) (p : CountersParams) : (beginCounters slot p d).Within n := by
  unfold Machine.beginCounters
  split
  · exact h.setCurrent slot (w := .counters _ _) (fun _ => nofun)
  · exact h

theorem beginPost (h : d.Within n) (slot : Fin 32) (p : Post) : (beginPost slot p d).Within n := by
  cases p with
  | profile q => exact h.beginProfile slot q
  | mapLoad q => exact h.beginMapLoad slot q
  | mapRead q => exact h.beginMapRead slot q
  | scanSetup q => exact h.beginScanSetup slot q
  | counters q => exact h.beginCounters slot q
  | cancel q => exact h.beginCancel slot q
  | clockSet v => exact h
  | capture q => exact h
  | trace q => exact h

theorem continueMapLoad (h : d.Within n) : (continueMapLoad d).Within n := by
  unfold Machine.continueMapLoad
  split
  · split
    · exact (h.setWork (w := .mapLoad _) (fun _ => nofun)).requestExec
    · split
      · exact h.finishMapLoad _
      · exact h.requestRead _
  · exact h

theorem continueMapRead (h : d.Within n) : (continueMapRead d).Within n := by
  unfold Machine.continueMapRead
  split
  · split
    · exact h.arbitrate
    · exact h.requestExec
  · exact h

/-- A LOAD's block, where the table has its key or room for it, and a DEFAULT's (R86, R87, R90). -/
theorem profileBlock (h : d.Within n) {slot : Fin 32} {isDefault : Bool} {key : Half}
    (he : d.exec = some { slot := slot, work := .profile isDefault key }) (bytes : List Byte) :
    (profileBlock isDefault key bytes d).Within n := by
  unfold Machine.profileBlock
  split
  · exact h.completePost _ _ _
  · cases isDefault with
    | true => exact completePost (by exact h) _ _ _
    | false =>
      have hsize := length_loadEntry_le key (parseProfile bytes) h.size (h.room slot key he)
      have hidle : Device.Within n { d with exec := none, profiles :=
          { d.profiles with entries := (loadEntry key (parseProfile bytes) d.profiles.entries).1 } } :=
        ⟨h.buffer, h.delivery, hsize, fun _ _ hx => nomatch hx⟩
      unfold applyProfile
      simp only [Bool.false_eq_true, if_false, Machine.completePost, he]
      exact hidle

/-! ### The posts a sweep finds -/

/-- A capture opens where the Capture Queue has room for it (R113, R114). -/
theorem openCapture (h : d.Within n) {p : CaptureParams} (hp : captureReject p = none) (slot : Fin 32) :
    (openCapture slot p d).Within (n + 1) :=
  drainWalk (Limits.setDelivery h (h.delivery.opened (newCapture_room hp slot)))

theorem handleCapture (h : d.Within 16) (hc : d.delivery.captures.length < 16) (m : SlotMark) (p : CaptureParams) :
    (handleCapture m p d).Within 16 := by
  have h15 : d.Within 15 :=
    Limits.setDelivery h ⟨h.delivery.holding, Nat.le_of_lt_succ hc, h.delivery.counts⟩
  unfold Machine.handleCapture
  split
  · exact h.rejectSlot _ _
  · next hp => exact h15.takeSlot (fun hx => hx.openCapture hp m.slot) m

theorem handleTrace (h : d.Within n) (m : SlotMark) (p : TraceParams) : (handleTrace m p d).Within n := by
  unfold Machine.handleTrace
  split
  · exact h.rejectSlot _ _
  · exact h.takeSlot (handOn := armTrace m.slot p) (fun hx => hx) m

/-- A CAPTURE is handled only where the Capture Queue is not full (R133). -/
theorem settlePost {d' : Device} (h : d.Within 16) {m : SlotMark} {p : Post} (hs : settlePost m p d = some d') :
    d'.Within 16 := by
  unfold Machine.settlePost at hs
  split at hs
  · cases hs
  · next hroom =>
    split at hs
    · obtain rfl := Option.some.inj hs
      exact h.rejectSlot _ _
    · obtain rfl := Option.some.inj hs
      unfold handlePost
      split
      · refine h.handleCapture ?_ m _
        by_contra hfull
        exact hroom (by simp [noRoom, postKind, Nat.not_lt.1 hfull])
      · exact h.handleTrace m _
      · exact h.takeSlot (fun hx => hx.beginPost _ _) m

theorem settleBody {d' : Device} (h : d.Within 16) {m : SlotMark} {p : Option Post} (hs : settleBody m p d = some d') :
    d'.Within 16 := by
  unfold Machine.settleBody at hs
  split at hs
  · cases hs
  · split at hs
    · exact h.settlePost hs
    · obtain rfl := Option.some.inj hs
      exact h.rejectSlot _ _

theorem bodyComplete (h : d.Within 16) (post : Byte → Option Post) (notify : Bool) :
    (bodyComplete post notify d).Within 16 := by
  unfold Machine.bodyComplete
  split
  · exact h
  · split
    · simp only
      unfold sweepGoesOn
      split
      · exact walk _ h
      · next hs =>
        split
        · exact walk _ (h.settleBody hs)
        · exact (h.settleBody hs).sweepDone
    · exact h

theorem postFound (h : d.Within 16) (slot : Fin 32) (notify : Bool) (p : Post) : (postFound slot notify p d).Within 16 := by
  unfold Machine.postFound
  split
  · exact (bodyComplete (by exact h) _ _).afterRead
  · exact h

/-! ### Resets and CONTROL -/

theorem powerOnReset (word : BitVec 16) (inputs : LinkInputs) (d : Device) : (powerOnReset word inputs d).Within n :=
  ⟨Nat.zero_le _, ⟨Nat.zero_le _, Nat.zero_le _, fun _ hc => nomatch hc⟩, Nat.zero_le _, fun _ _ hx => nomatch hx⟩

/-- What the two other resets have in common empties the queues and keeps the Profile Table (R94, R111, R172). -/
theorem commonReset (h : d.Within n) (base : Addr) (inputs : LinkInputs) : (commonReset base inputs d).Within n := by
  obtain ⟨-, hprofiles, -⟩ := commonReset_keeps base inputs d
  exact ⟨Nat.zero_le _, ⟨Nat.zero_le _, Nat.zero_le _, fun _ hc => nomatch hc⟩, hprofiles ▸ h.size,
    fun _ _ hx => nomatch hx⟩

theorem softReset (h : d.Within n) : (softReset d).Within n := h.commonReset d.regs.tableBase d.link.inputs

theorem linkReset (h : d.Within n) (word : BitVec 16) (inputs : LinkInputs) : (linkReset word inputs d).Within n :=
  h.commonReset 0 inputs

theorem runEdge (h : d.Within n) (was : Bool) : (runEdge was d).Within n := by
  unfold Machine.runEdge
  split
  · exact startFrame (by exact h)
  · exact h

theorem intakeEdge (h : d.Within n) (was : Bool) : (intakeEdge was d).Within n := by
  unfold Machine.intakeEdge
  split
  · unfold sweepIntakeOff
    split
    · exact h
    · split
      · exact h
      · split <;> exact h
      · exact h
  · exact h

theorem resumeAct (h : d.Within n) : (resumeAct d).Within n := by
  unfold Machine.resumeAct
  split
  · exact (drainWalk (by exact h)).settleLink
  · exact h

theorem controlWrite (h : d.Within n) (w : BitVec 32) : (controlWrite w d).Within n := by
  have hfields : (controlFields w d).Within n := setEventMask (by exact h) _ _
  have hedges := (hfields.runEdge d.regs.run).intakeEdge d.regs.intake
  unfold Machine.controlWrite
  extract_lets wasRun wasIntake edged
  split
  · exact hedges.resumeAct
  · exact hedges

theorem promptWrite (h : d.Within n) : (promptWrite d).Within n := by
  unfold Machine.promptWrite
  split
  · split
    · exact h
    · exact h.startSweep
  · exact h

theorem baseWrite (h : d.Within n) (t : TableBaseAccess) : (baseWrite t d).Within n := by
  unfold Machine.baseWrite; split <;> exact h

theorem writeAccess (h : d.Within n) (offset width : Nat) (v : BitVec 64) : (writeAccess offset width v d).Within n := by
  unfold Machine.writeAccess
  split
  · exact h.baseWrite _
  · split
    · unfold writeWord
      split
      · unfold controlAny
        split
        · exact h.softReset
        · exact h.controlWrite _
      · exact h.setEventMask _ _
      · exact h.promptWrite
      · exact h
      · exact h
      · exact h
      · exact h.baseWrite _
      · exact h.baseWrite _
      · exact h
    · exact h

/-! ### Events of the Scan Engine and of the map port -/

theorem frameExpiry (h : d.Within n) : (frameExpiry d).Within n := by
  unfold Machine.frameExpiry
  split
  · split
    · exact (goBoundary (by exact h) _ _ _).afterBoundary.settleLink
    · exact h
  · exact h

theorem windowDone (h : d.Within n) (ch : Channel) (res : WindowResult) : (windowDone ch res d).Within n := by
  unfold Machine.windowDone; split <;> exact h

theorem solverAnswered (h : d.Within n) (g : Grant) (b : Boundary) : (solverAnswered g b d).Within n := by
  have hn : (endGrant (Machine.noteRead g.node g.word.check .solver d)).Within n := h.noteRead _ _ _
  unfold Machine.solverAnswered
  extract_lets r j noted
  split
  · exact requestSolver (by exact hn)
  · exact ((hn.arbitrate.finishJob _ _).goBoundary _ _ _).afterBoundary.settleLink

theorem solverRead (h : d.Within n) : (solverRead d).Within n := by
  unfold Machine.solverRead
  split
  · split
    · split
      · exact h.solverAnswered _ _
      · exact h
    · exact h
  · exact h

theorem syncEdge (h : d.Within n) (e : Edge) : (syncEdge e d).Within n := by
  unfold Machine.syncEdge
  split
  · split
    · exact (h.takeArrival _).afterBoundary.settleLink
    · exact h
    · exact h
  · exact h

theorem lossExpiry (h : d.Within n) : (lossExpiry d).Within n := by
  unfold Machine.lossExpiry; split <;> exact h

theorem scrubExpiry (h : d.Within n) : (scrubExpiry d).Within n := by
  unfold Machine.scrubExpiry scrubRequest
  split
  · split
    · exact arbitrate (h.of_same rfl rfl rfl rfl)
    · exact h.of_same rfl rfl rfl rfl
  · exact h

theorem scrubGrant (h : d.Within n) : (scrubGrant d).Within n := by
  unfold Machine.scrubGrant
  split
  · split
    · exact (h.answerScrub _).arbitrate
    · exact h
  · exact h

theorem loadGrant (h : d.Within n) : (loadGrant d).Within n := by
  unfold Machine.loadGrant
  split
  · split
    · split
      · exact (h.answerExec _).continueMapLoad.arbitrate.settleLink
      · exact h
    · exact h
  · exact h

theorem readGrant (h : d.Within n) : (readGrant d).Within n := by
  unfold Machine.readGrant
  split
  · split
    · split
      · exact (h.answerExec _).continueMapRead.arbitrate.settleLink
      · exact h
    · exact h
  · exact h

/-- Time leaves every capture's count (R118). -/
theorem passTime (h : d.Within n) (us : Nat) : (passTime us d).Within n := by
  unfold Machine.passTime ageCaptures
  split
  · exact h
  · refine Limits.setDelivery h (h.delivery.retime fun c => ?_)
    unfold Capture.age
    split <;> exact ⟨rfl, rfl⟩

/-! ### Events of the Link Port and of the Post Intake -/

theorem sweepExpiry (h : d.Within n) : (sweepExpiry d).Within n := by
  unfold Machine.sweepExpiry
  split
  · simp only
    split
    · exact startSweep (h.of_same rfl rfl rfl rfl)
    · exact h.of_same rfl rfl rfl rfl
  · exact h

theorem stripArrived (h : d.Within n) (bytes : List Byte) : (stripArrived bytes d).Within n := by
  unfold Machine.stripArrived stripComplete
  split
  · refine afterRead ?_
    split
    · exact h
    · exact walk _ (by exact h)
  · exact h

theorem bodyArrived (h : d.Within 16) (bytes : List Byte) : (bodyArrived bytes d).Within 16 := by
  unfold Machine.bodyArrived
  split
  · exact (bodyComplete (by exact h) _ _).afterRead
  · exact h

theorem blockArrived (h : d.Within n) (bytes : List Byte) : (blockArrived bytes d).Within n := by
  unfold Machine.blockArrived
  split
  · next he =>
    split
    · exact (profileBlock (d := endRead d) h he bytes).afterRead
    · exact h
  · exact h

theorem pieceArrived (h : d.Within n) (bytes : List Byte) : (pieceArrived bytes d).Within n := by
  unfold Machine.pieceArrived
  split
  · split
    · exact (setWork (d := endRead d) h (w := .mapLoad _) (fun _ => nofun)).requestExec.afterRead
    · exact h
  · exact h

theorem idleExpiry (h : d.Within n) (slot : Fin 32) : (idleExpiry slot d).Within n := by
  unfold Machine.idleExpiry
  split
  · next c _ =>
    split
    · exact (h.completeCapture c .timeout).settleLink
    · exact h
  · exact h

/-- The head leaves the buffer (R161). -/
theorem acceptHead (h : d.Within n) : (acceptHead d).Within n := by
  unfold Machine.acceptHead
  split
  · exact h
  · next w rest hb =>
    have hpop : (popHead w rest d).Within n := by
      have hlen := h.buffer
      rw [hb, List.length_cons] at hlen
      exact Limits.setBuffer h (Nat.le_of_succ_le hlen)
    have hdone : (doneCause w (popHead w rest d)).Within n := by
      unfold doneCause
      split
      · exact hpop.setCause _
      · exact hpop
    split
    · exact hdone.sweepEntryLeft.settleLink
    · exact h

theorem readFault (h : d.Within n) (cls : FaultClass) : (readFault cls d).Within n := by
  unfold Machine.readFault
  split
  · exact raiseFault (by exact h) _ _ _
  · exact h

theorem readTimerExpiry (h : d.Within n) : (readTimerExpiry d).Within n := by
  unfold Machine.readTimerExpiry
  split
  · split
    · exact (h.readFault _).settleLink
    · exact h
  · exact h

theorem linkFalls (h : d.Within n) : (linkFalls d).Within n := by
  unfold Machine.linkFalls downFault
  split
  · split
    · exact h
    · split
      · exact readFault (by exact h) _
      · split
        · exact h
        · exact raiseFault (by exact h) _ _ _
  · exact h

/-! ### Every command -/

theorem of_effect {s t : State} {f : Device → Device} (h : (f s.dev).Within n) (ht : effect f s = .next t) :
    t.dev.Within n := by
  obtain rfl := Host.Outcome.next.inj ht
  exact h

/-- Every command keeps the part within its bounds. -/
theorem exec {s t : State} (h : s.dev.Within 16) (i : Instr) (ht : Machine.exec i s = .next t) : t.dev.Within 16 := by
  cases i with
  | powerOn word inputs => exact of_effect (powerOnReset word inputs s.dev) ht
  | linkReset word inputs => exact of_effect (h.linkReset word inputs) ht
  | softReset w => exact of_effect h.softReset ht
  | runSet w => exact of_effect (h.controlWrite _) ht
  | runClear w => exact of_effect (h.controlWrite _) ht
  | intakeSet w => exact of_effect (h.controlWrite _) ht
  | intakeClear w => exact of_effect (h.controlWrite _) ht
  | batch w => exact of_effect (h.controlWrite _) ht
  | maskWrite w => exact of_effect (h.controlWrite _) ht
  | resume w => exact of_effect (h.controlWrite _) ht
  | prompt v => exact of_effect h.promptWrite ht
  | eventWrite v => exact of_effect (f := eventClear v) (h.setEventMask _ _) ht
  | faultWrite word v => exact of_effect (f := faultClear) h ht
  | maplogWrite v => exact of_effect (f := maplogClear) h ht
  | tableBaseWrite a => exact of_effect (h.baseWrite a) ht
  | discardedRegisterWrite offset width v => exact of_effect (h.writeAccess _ _ v) ht
  | frameBoundary => exact of_effect h.frameExpiry ht
  | windowResult ch res => exact of_effect (h.windowDone ch res) ht
  | solverNodeRead => exact of_effect h.solverRead ht
  | idleTimeout slot => exact of_effect (h.idleExpiry slot) ht
  | syncArrival edge => exact of_effect (h.syncEdge edge) ht
  | lossTimerExpiry => exact of_effect h.lossExpiry ht
  | scrubTimerExpiry => exact of_effect h.scrubExpiry ht
  | scrub => exact of_effect h.scrubGrant ht
  | mapLoadNodeWrite => exact of_effect h.loadGrant ht
  | mapReadNodeRead => exact of_effect h.readGrant ht
  | sweepTimerExpiry => exact of_effect h.sweepExpiry ht
  | stripReadComplete bytes => exact of_effect (h.stripArrived bytes) ht
  | bodyReadComplete bytes => exact of_effect (h.bodyArrived bytes) ht
  | capture slot notify p => exact of_effect (h.postFound slot notify _) ht
  | trace slot notify p => exact of_effect (h.postFound slot notify _) ht
  | scanSetup slot notify p => exact of_effect (h.postFound slot notify _) ht
  | profileLoad slot notify key source => exact of_effect (h.postFound slot notify _) ht
  | profileRemove slot notify key => exact of_effect (h.postFound slot notify _) ht
  | profileClear slot notify => exact of_effect (h.postFound slot notify _) ht
  | profileDefault slot notify key source => exact of_effect (h.postFound slot notify _) ht
  | profileBlockReadComplete bytes => exact of_effect (h.blockArrived bytes) ht
  | mapLoad slot notify p => exact of_effect (h.postFound slot notify _) ht
  | mapPieceReadComplete bytes => exact of_effect (h.pieceArrived bytes) ht
  | mapRead slot notify p => exact of_effect (h.postFound slot notify _) ht
  | counters slot notify p => exact of_effect (h.postFound slot notify _) ht
  | cancelMask slot notify mask => exact of_effect (h.postFound slot notify _) ht
  | cancelTrace slot notify => exact of_effect (h.postFound slot notify _) ht
  | cancelSlot slot notify target => exact of_effect (h.postFound slot notify _) ht
  | clockSet slot notify value => exact of_effect (h.postFound slot notify _) ht
  | writeAccepted => exact of_effect h.acceptHead ht
  | readError => exact of_effect (f := readFails .readError) (h.readFault _).settleLink ht
  | readTimeout => exact of_effect h.readTimerExpiry ht
  | linkDown => exact of_effect h.linkFalls ht
  | linkUp => exact of_effect (f := linkRises) (sendPending (by exact h)).settleLink ht
  | busMasteringChange on => exact of_effect (f := masteringChange on) (sendPending (by exact h)).settleLink ht
  | mapBitFlip node bit => exact of_effect (f := flipBit node bit) h ht
  | strokeClockTick us => exact of_effect (h.passTime us) ht
  | staleReadCompletion bytes => exact of_effect (f := staleData bytes) h ht
  | messageInterruptEnableChange on addr data => exact of_effect (f := msiChange on addr data) (sendPending (by exact h)) ht

end Device.Within

/-- Settles O58: the bounds, said on the values they depend on, hold through every command. -/
theorem queuesStayBounded : Obligations.QueuesStayBounded := by
  intro s t ht h
  rw [Device.bounded_iff] at h ⊢
  unfold step at ht
  split at ht
  · obtain rfl := Host.Outcome.next.inj ht
    exact h
  · next c rest _ => exact Device.Within.exec (s := { s with pending := rest }) h c ht

end Sys2Proof.Machine
end

section
/-!
PROOFS. PROFILE (R84, R85, R88, R89, R91): the checks, the block read, and the entries that REMOVE and CLEAR take away.
-/
namespace Sys2Proof.Machine

open Sys2Proof

section
variable {d : Device} {slot : Fin 32} {p : ProfileParams}

/-! ### The checks (R84) -/

/-- A rejected PROFILE's result: the key as given and the number of entries (R91). -/
theorem rejectProfile_eq (dt : Detail) (index : Nat) (key : Half) : rejectProfile slot dt index key d =
    completeSlot slot .rejected dt
      (le 1 index ++ le 1 d.profiles.entries.length ++ [0, 0] ++ le 2 key.toNat ++ [0]) d := rfl

theorem beginProfileLoad_zero (hk : p.key = 0) : beginProfileLoad slot p d = rejectProfile slot .range 0 p.key d := by
  rw [beginProfileLoad, if_pos hk]

theorem beginProfileLoad_unaligned (hk : p.key ≠ 0) (ha : p.source.toNat % 8 ≠ 0) :
    beginProfileLoad slot p d = rejectProfile slot .align 0 p.key d := by
  rw [beginProfileLoad, if_neg hk, if_pos (by simpa [aligned] using ha)]

theorem beginProfileLoad_full (hk : p.key ≠ 0) (ha : p.source.toNat % 8 = 0)
    (hnew : ¬∃ e ∈ d.profiles.entries, e.key = p.key) (hfull : 8 ≤ d.profiles.entries.length) :
    beginProfileLoad slot p d = rejectProfile slot .tableFull 0 p.key d := by
  have hheld : d.profiles.holds p.key = false := Bool.eq_false_iff.2 (mt (Profiles.holds_iff _ _).1 hnew)
  rw [beginProfileLoad, if_neg hk, if_neg (by simp [aligned, ha]), if_pos (by simp [hheld, hfull])]

theorem beginProfileLoad_reads (hk : p.key ≠ 0) (ha : p.source.toNat % 8 = 0) (hroom : HasRoom d.profiles.entries p.key) :
    beginProfileLoad slot p d = startBlockRead slot false p d := by
  have hpass : ¬(!d.profiles.holds p.key && decide (8 ≤ d.profiles.entries.length)) = true := by
    rcases hroom with hheld | hlen
    · simp [(Profiles.holds_iff _ _).2 hheld]
    · simp [Nat.not_le.2 hlen]
  rw [beginProfileLoad, if_neg hk, if_neg (by simp [aligned, ha]), if_neg hpass]

theorem beginProfileDefault_unaligned (ha : p.source.toNat % 8 ≠ 0) :
    beginProfileDefault slot p d = rejectProfile slot .align 0 p.key d := by
  rw [beginProfileDefault, if_pos (by simpa [aligned] using ha)]

theorem beginProfileDefault_reads (ha : p.source.toNat % 8 = 0) :
    beginProfileDefault slot p d = startBlockRead slot true p d := by
  rw [beginProfileDefault, if_neg (by simp [aligned, ha])]

/-! ### Entries removed (R88, R89) -/

theorem beginProfileRemove_zero (hk : p.key = 0) : beginProfileRemove slot p d = rejectProfile slot .range 0 p.key d := by
  rw [beginProfileRemove, if_pos hk]

theorem beginProfileRemove_notFound (hk : p.key ≠ 0) (hnone : ∀ e ∈ d.profiles.entries, e.key ≠ p.key) :
    beginProfileRemove slot p d = rejectProfile slot .notFound 0 p.key d := by
  have hfind : d.profiles.entries.find? (fun e => e.key == p.key) = none :=
    List.find?_eq_none.2 fun e he => by simpa using hnone e he
  simp only [beginProfileRemove, if_neg hk, hfind]

theorem beginProfileRemove_removes {before after : List ProfileEntry} {e : ProfileEntry} (hk : p.key ≠ 0)
    (hes : d.profiles.entries = before ++ e :: after) (he : e.key = p.key)
    (hother : ∀ x ∈ before ++ after, x.key ≠ p.key) : beginProfileRemove slot p d = completeSlot slot .ok .none
      ([0] ++ le 1 (before.length + after.length) ++ [1, 0] ++ le 2 p.key.toNat ++ le 1 e.rev.toNat)
      { d with profiles := { d.profiles with entries := before ++ after } } := by
  have hkept : ∀ l : List ProfileEntry, (∀ x ∈ l, x ∈ before ++ after) → l.filter (fun x => x.key != p.key) = l :=
    fun l hl => List.filter_eq_self.2 fun x hx => by simpa using hother x (hl x hx)
  have hfilter : d.profiles.entries.filter (fun x => x.key != p.key) = before ++ after := by
    rw [hes, List.filter_append, List.filter_cons_of_neg (by simp [he]),
      hkept before fun x => List.mem_append_left _, hkept after fun x => List.mem_append_right _]
  have hfind : d.profiles.entries.find? (fun x => x.key == p.key) = some e := by
    rw [hes, List.find?_append, List.find?_eq_none.2 fun x hx => by simpa using hother x (List.mem_append_left _ hx)]
    simp [he]
  simp only [beginProfileRemove, if_neg hk, hfind, hfilter, List.length_append]
  rfl

end

/-! ### The slot taken (R136, R138) -/

section
variable {d : Device} {slot : Fin 32}

/-- The part with another's values in the units that neither deliver nor hold posts. -/
def Device.withUnits (d z : Device) : Device :=
  { d with
    board := z.board, scan := z.scan, chans := z.chans, map := z.map, profiles := z.profiles, clock := z.clock
    counters := z.counters }

/-- A post that completes as it begins, having changed such units: its three writes are in the buffer and its mark is
clear. -/
theorem postFound_completesChanged {p : Post} {st : Status} {dt : Detail} {fs : List Byte} (z : Device)
    (h : d.Open slot (postKind p)) (notify : Bool) (hk : executorKind (postKind p) = true)
    (hb : beginPost slot p (d.taking (d.foundMark slot (postKind p) notify))
      = completeSlot slot st dt fs ((d.taking (d.foundMark slot (postKind p) notify)).withUnits z)) :
    postFound slot notify p d
      = (d.swept.withUnits z).completedSlot (d.foundMark slot (postKind p) notify) st dt fs := by
  let mark := d.foundMark slot (postKind p) notify
  let e : Device := setRotation slot ((d.taking mark).withUnits z)
  have hn : e.NoProducer := (h.finds.taking_noProducer mark).keep rfl rfl rfl rfl
  have hclear : e.intake.inFlight.filter (fun x => x.slot != slot) = d.intake.inFlight := h.finds.taking_unmarked notify
  have hmark : e.markOf slot = mark := markOf_marked d mark
  have hx : settleLink (setRotation slot (beginPost slot p (d.taking mark)))
      = (clearMark slot e).wrote [takenWrite mark, resultWrite mark st dt fs, doneWrite mark] := by
    have hdone := settleLink_completeSlot hn (h.finds.taking_canIssue mark) (Nat.le_succ 1) slot st dt fs
    rw [hmark] at hdone
    rw [hb]
    exact hdone
  rw [postFound_takes h notify hk hx ⟨rfl, rfl, rfl, rfl, hn.keep rfl rfl rfl rfl, .inr rfl⟩]
  simp only [setSweep, clearMark, Device.wrote, hclear]
  rfl

theorem executorKind_profile (q : ProfileParams) : executorKind (postKind (.profile q)) = true :=
  show executorKind 2 = true by decide

/-- A PROFILE that passes its checks: its mark and TAKEN write stand, and its block is being read (R85). -/
theorem postFound_readsBlock {q : ProfileParams} (h : d.Open slot 2) (notify : Bool) (isDefault : Bool)
    (hb : beginProfile slot q (d.taking (d.foundMark slot 2 notify))
      = startBlockRead slot isDefault q (d.taking (d.foundMark slot 2 notify))) :
    postFound slot notify (.profile q) d = Device.tookSlot { d.swept with
        exec := some { slot := slot, work := .profile isDefault q.key }
        link := { d.swept.link with inFlight := some { req := blockRead slot q.source, elapsed := 0 } } }
      (d.foundMark slot 2 notify) := by
  let x := setCurrent slot (.profile isDefault q.key) (d.taking (d.foundMark slot 2 notify))
  have hcalm := h.finds.calm
  exact postFound_begins (p := .profile q) h notify (executorKind_profile q)
    (hb.trans (requestRead_issues (d := x) (blockRead slot q.source) hcalm.live hcalm.waiting rfl hcalm.canIssue))
    ⟨.inl hcalm.holding, hcalm.slotQueue, hcalm.staging, rfl⟩ ⟨_, rfl⟩ rfl rfl

end

/-- Settles O36. -/
theorem profileLoadAndDefaultReadBlock : Obligations.ProfileLoadAndDefaultReadBlock := by
  intro s slot notify key source hopen m n rejected rd reads held
  have rejects : ∀ {q : ProfileParams} {dt : Detail}, q.key = key →
      beginProfile slot q (s.dev.taking m) = rejectProfile slot dt 0 q.key (s.dev.taking m) →
      postFound slot notify (.profile q) s.dev = rejected dt := by
    rintro q dt rfl hb
    exact postFound_completes (p := .profile q) hopen notify (executorKind_profile q) hb
  have load : ∀ {d : Device}, postFound slot notify (.profile { op := 1, key := key, source := source }) s.dev = d →
      exec (.profileLoad slot notify key source) s = .next { s with dev := d } := effect_next
  have dflt : ∀ {d : Device}, postFound slot notify (.profile { op := 4, key := key, source := source }) s.dev = d →
      exec (.profileDefault slot notify key source) s = .next { s with dev := d } := effect_next
  refine ⟨fun hk => load ?zero, fun hk ha => load ?unaligned, fun hk ha hnew hfull => load ?full,
    fun hk ha hroom => load ?reads, fun ha => dflt ?defaultUnaligned, fun ha => dflt ?defaultReads⟩
  case zero => exact rejects rfl (beginProfileLoad_zero hk)
  case unaligned => exact rejects rfl (beginProfileLoad_unaligned hk ha)
  case full => exact rejects rfl (beginProfileLoad_full hk ha hnew hfull)
  case reads => exact postFound_readsBlock hopen notify false (beginProfileLoad_reads hk ha hroom)
  case defaultUnaligned => exact rejects rfl (beginProfileDefault_unaligned ha)
  case defaultReads => exact postFound_readsBlock hopen notify true (beginProfileDefault_reads ha)

/-- Settles O37. -/
theorem profileRemoveAndClear : Obligations.ProfileRemoveAndClear := by
  intro s slot notify key hopen m n rejected holding
  let q : ProfileParams := { op := 2, key := key, source := 0 }
  have remove : ∀ {d : Device}, postFound slot notify (.profile q) s.dev = d →
      exec (.profileRemove slot notify key) s = .next { s with dev := d } := effect_next
  have clear : ∀ {d : Device}, postFound slot notify (.profile { op := 3, key := 0, source := 0 }) s.dev = d →
      exec (.profileClear slot notify) s = .next { s with dev := d } := effect_next
  refine ⟨fun hk => remove ?zero, fun hk hnone => remove ?notFound,
    fun before e after hk hes he hother => remove ?removes, clear ?clears⟩
  case zero =>
    exact postFound_completes (p := .profile q) hopen notify (executorKind_profile q) (beginProfileRemove_zero (p := q) hk)
  case notFound =>
    exact postFound_completes (p := .profile q) hopen notify (executorKind_profile q)
      (beginProfileRemove_notFound (p := q) hk hnone)
  case removes =>
    exact postFound_completesChanged (p := .profile q) (holding (before ++ after)) hopen notify (executorKind_profile q)
      (beginProfileRemove_removes (p := q) (d := s.dev.taking m) hk hes he hother)
  case clears =>
    exact postFound_completesChanged (p := .profile { op := 3, key := 0, source := 0 }) (holding []) hopen notify
      (executorKind_profile _) rfl

end Sys2Proof.Machine
end

section
/-!
PROOFS. PROFILE_BLOCK_READ_COMPLETE (R86, R87, R90, R91): the first field of a block that fails, and the profile replaced or
created.
-/
namespace Sys2Proof.Machine

open Sys2Proof

/-! ### The first of a run of checks that fails -/

/-- Of the checks lo up to but not including hi, o is the first that fails, none where all pass. -/
def FirstFailing (P : Nat → Prop) (lo hi : Nat) : Option Nat → Prop
  | none => ∀ i, lo ≤ i → i < hi → P i
  | some i => lo ≤ i ∧ i < hi ∧ ¬P i ∧ ∀ j, lo ≤ j → j < i → P j

section
variable {P : Nat → Prop} {lo mid hi : Nat} {o : Option Nat}

theorem FirstFailing.empty : FirstFailing P lo lo none := fun _ hlo hhi => absurd hlo (Nat.not_le.2 hhi)

/-- A check that fails is the first that does. -/
theorem FirstFailing.fails (h : ¬P lo) (hlt : lo < hi) : FirstFailing P lo hi (some lo) :=
  ⟨le_rfl, hlt, h, fun _ hlo hj => absurd hlo (Nat.not_le.2 hj)⟩

/-- Past checks that pass, the first that fails is the first of the rest. -/
theorem FirstFailing.append (h : FirstFailing P lo mid none) (ho : FirstFailing P mid hi o) (hle : lo ≤ mid) :
    FirstFailing P lo hi o := by
  have hbelow : ∀ {i}, (∀ j, mid ≤ j → j < i → P j) → (i ≤ hi) → ∀ j, lo ≤ j → j < i → P j := by
    intro i hi' _ j hlo hj
    rcases Nat.lt_or_ge j mid with hm | hm
    · exact h j hlo hm
    · exact hi' j hm hj
  cases o with
  | none => exact hbelow ho le_rfl
  | some i =>
    obtain ⟨hmid, hlt, hfail, hpass⟩ := ho
    exact ⟨hle.trans hmid, hlt, hfail, hbelow hpass hlt.le⟩

/-- One that fails is the first of a longer run too. -/
theorem FirstFailing.extend {i : Nat} (h : FirstFailing P lo mid (some i)) (hle : mid ≤ hi) :
    FirstFailing P lo hi (some i) := by
  obtain ⟨hlo, hlt, hfail, hpass⟩ := h
  exact ⟨hlo, hlt.trans_le hle, hfail, hpass⟩

/-- One check before the rest. -/
theorem FirstFailing.check {c : Prop} [Decidable c] (hc : P lo ↔ c) (hlt : lo < hi) (ho : FirstFailing P (lo + 1) hi o) :
    FirstFailing P lo hi (if ¬c then some lo else o) := by
  split
  · next h => exact .fails (mt hc.1 h) hlt
  · next h =>
    refine FirstFailing.append (mid := lo + 1) (fun i hlo hi' => ?_) ho (Nat.le_succ lo)
    obtain rfl : i = lo := by omega
    exact hc.2 (not_not.1 h)

/-- The first that fails, known by its failing and the others' passing. -/
theorem FirstFailing.eq_some (h : FirstFailing P lo hi o) {i : Nat} (hlo : lo ≤ i) (hhi : i < hi) (hfail : ¬P i)
    (hpass : ∀ j, lo ≤ j → j < i → P j) : o = some i := by
  cases o with
  | none => exact absurd (h i hlo hhi) hfail
  | some k =>
    obtain ⟨hk, -, hkfail, hkpass⟩ := h
    rcases Nat.lt_trichotomy i k with hik | rfl | hki
    · exact absurd (hkpass i hlo hik) hfail
    · rfl
    · exact absurd (hpass k hk hki) hkfail

theorem FirstFailing.eq_none (h : FirstFailing P lo hi o) (hpass : ∀ i, lo ≤ i → i < hi → P i) : o = none := by
  cases o with
  | none => rfl
  | some k => exact absurd (hpass k h.1 h.2.1) h.2.2.1

end

/-! ### The fields of a profile block (R86) -/

/-- The check of a field of a block, by its number (R86). -/
def Profile.Passes (v : Profile) (field : Nat) : Prop :=
  (field = 1 → 64 ≤ v.prox ∧ v.prox ≤ 60000) ∧ (field = 2 → 1 ≤ v.off ∧ v.off ≤ 4094)
  ∧ (field = 3 → v.off < v.on ∧ v.on ≤ 4095)
  ∧ (4 ≤ field → field ≤ 12 → v.rs.getD (field - 4) 0 ≤ 4095)
  ∧ (5 ≤ field → field ≤ 12 → v.rs.getD (field - 5) 0 < v.rs.getD (field - 4) 0)
  ∧ (13 ≤ field → field ≤ 21 → v.ps.getD (field - 13) 0 ≤ 16383)
  ∧ (14 ≤ field → field ≤ 21 → v.ps.getD (field - 14) 0 ≤ v.ps.getD (field - 13) 0)
  ∧ (field = 22 → v.k ≤ 3) ∧ (field = 23 → 64 ≤ v.s ∧ v.s ≤ 2048) ∧ (field = 24 → v.bias ≤ 64)

theorem length_halves (bytes : List Byte) (n : Nat) : ∀ offset, (halves bytes offset n).length = n := by
  induction n with
  | zero => intro _; rfl
  | succ n ih => intro offset; exact congrArg Nat.succ (ih _)

/-- The points of a list from the second on, each checked against the one before it. -/
theorem points_firstFailing {P : Nat → Prop} {ok : Nat → Nat → Prop} [∀ a r, Decidable (ok a r)]
    {bad : Nat → List Nat → Nat → Option Nat} (hnil : ∀ a n, bad a [] n = none)
    (hcons : ∀ a r rs n, bad a (r :: rs) n = if ok a r then bad r rs (n + 1) else some n) :
    ∀ (l : List Nat) {prev n : Nat}, (∀ k < l.length, P (n + k) ↔ ok ((prev :: l).getD k 0) (l.getD k 0)) →
      FirstFailing P n (n + l.length) (bad prev l n) := by
  intro l
  induction l with
  | nil => intro prev n _; rw [hnil]; exact .empty
  | cons r rest ih =>
    intro prev n hP
    have hrest := ih (prev := r) (n := n + 1) fun k hk => by
      have hk := hP (k + 1) (Nat.succ_lt_succ hk)
      rwa [← Nat.add_assoc, Nat.add_right_comm] at hk
    rw [hcons, ← ite_not]
    refine .check (hP 0 (Nat.succ_pos _)) (by simp) ?_
    rwa [List.length_cons, ← Nat.add_assoc, Nat.add_right_comm]

/-- Fields 5 to 12: r rises, to at most 4095. -/
theorem Profile.passes_r (v : Profile) {k : Nat} (h : k < 8) :
    v.Passes (5 + k) ↔ v.rs.getD k 0 < v.rs.getD (k + 1) 0 ∧ v.rs.getD (k + 1) 0 ≤ 4095 := by
  have h4 : 5 + k - 4 = k + 1 := by omega
  have h5 : 5 + k - 5 = k := by omega
  rw [Passes, h4, h5]
  omega

/-- Fields 14 to 21: p does not fall, and is at most 16383. -/
theorem Profile.passes_p (v : Profile) {k : Nat} (h : k < 8) :
    v.Passes (14 + k) ↔ v.ps.getD k 0 ≤ v.ps.getD (k + 1) 0 ∧ v.ps.getD (k + 1) 0 ≤ 16383 := by
  have h13 : 14 + k - 13 = k + 1 := by omega
  have h14 : 14 + k - 14 = k := by omega
  rw [Passes, h13, h14]
  omega

/-- The first field of a block that fails its check, as R86 numbers them. -/
theorem Profile.firstBad_firstFailing {v : Profile} (hr : v.rs.length = 9) (hp : v.ps.length = 9) :
    FirstFailing v.Passes 1 25 v.firstBad := by
  obtain ⟨r0, rs, hrs⟩ := List.exists_cons_of_length_eq_add_one hr
  obtain ⟨p0, ps, hps⟩ := List.exists_cons_of_length_eq_add_one hp
  have hr : rs.length = 8 := by simpa [hrs] using hr
  have hp : ps.length = 8 := by simpa [hps] using hp
  have hR : FirstFailing v.Passes 5 (5 + rs.length) (badR r0 rs 5) :=
    points_firstFailing (ok := fun a r => a < r ∧ r ≤ 4095) (fun _ _ => rfl) (fun _ _ _ _ => rfl) rs fun k hk => by
      rw [v.passes_r (by omega), hrs, List.getD_cons_succ]
  have hP : FirstFailing v.Passes 14 (14 + ps.length) (badP p0 ps 14) :=
    points_firstFailing (ok := fun a r => a ≤ r ∧ r ≤ 16383) (fun _ _ => rfl) (fun _ _ _ _ => rfl) ps fun k hk => by
      rw [v.passes_p (by omega), hps, List.getD_cons_succ]
  have last : FirstFailing v.Passes 22 25
      (if ¬v.k ≤ 3 then some 22 else if ¬(64 ≤ v.s ∧ v.s ≤ 2048) then some 23
        else if ¬v.bias ≤ 64 then some 24 else none) :=
    .check (by simp [Passes]) (by decide)
      (.check (by simp [Passes]) (by decide) (.check (by simp [Passes]) (by decide) .empty))
  unfold firstBad
  simp only [hrs, hps, List.headD_cons, List.tail_cons]
  refine .check (by simp [Passes]) (by decide) (.check (by simp [Passes]) (by decide) (.check ?_ (by decide)
    (.check (by simp [Passes, hrs]) (by decide) ?_)))
  · simp [Passes, Nat.succ_le_iff]
  split
  · next h => rw [h] at hR; exact hR.extend (by omega)
  · next h =>
    rw [h, hr] at hR
    refine hR.append (.check (by simp [Passes, hps]) (by decide) ?_) (by decide)
    split
    · next h => rw [h] at hP; exact hP.extend (by omega)
    · next h => rw [h, hp] at hP; exact hP.append last (by decide)

theorem parseProfile_firstBad (bytes : List Byte) :
    FirstFailing (parseProfile bytes).Passes 1 25 (parseProfile bytes).firstBad :=
  Profile.firstBad_firstFailing (length_halves bytes 9 6) (length_halves bytes 9 24)

/-! ### The table with the profile (R87) -/

theorem loadEntry_new {key : Half} {es : List ProfileEntry} (v : Profile) (h : ∀ e ∈ es, e.key ≠ key) :
    loadEntry key v es = (es ++ [{ key := key, rev := 0, profile := v }], 0) := by
  induction es with
  | nil => rfl
  | cons e rest ih =>
    rw [loadEntry, if_neg (h e List.mem_cons_self), ih fun x hx => h x (List.mem_cons_of_mem _ hx)]
    rfl

theorem loadEntry_held {key : Half} {before after : List ProfileEntry} {e : ProfileEntry} (v : Profile)
    (he : e.key = key) (h : ∀ x ∈ before, x.key ≠ key) : loadEntry key v (before ++ e :: after)
      = (before ++ { e with rev := e.rev + 1, profile := v } :: after, e.rev + 1) := by
  induction before with
  | nil => rw [List.nil_append, loadEntry, if_pos he]; rfl
  | cons x rest ih =>
    rw [List.cons_append, loadEntry, if_neg (h x List.mem_cons_self), ih fun y hy => h y (List.mem_cons_of_mem _ hy)]
    rfl

/-- A LOAD's block applied gives the table and revision that loadEntry answers. -/
theorem applyProfile_load {d : Device} {key : Half} {v : Profile} {es : List ProfileEntry} {rev : BitVec 8}
    (h : loadEntry key v d.profiles.entries = (es, rev)) : applyProfile false key v d
      = completePost .ok .none (profileFields 0 es.length 0 key rev)
        { d with profiles := { d.profiles with entries := es } } := by
  simp only [applyProfile, Bool.false_eq_true, if_false, h]

/-! ### The post's completion (R91, R138) -/

/-- The Executor's PROFILE post completes in a calm part as its block arrives: its result and DONE are in the buffer and its
mark is clear. -/
theorem blockArrived_completes {d : Device} {slot : Fin 32} {isDefault : Bool} {key : Half} {bytes : List Byte}
    {rd : ReadInFlight} {ps : Profiles} {st : Status} {dt : Detail} {fs : List Byte}
    (he : d.exec = some { slot := slot, work := .profile isDefault key }) (hcalm : d.Calm)
    (hrd : d.link.inFlight = some rd) (hsite : rd.req.site = .executor) (hlen : rd.req.len = bytes.length)
    (hb : profileBlock isDefault key bytes (endRead d) = completePost st dt fs { endRead d with profiles := ps }) :
    blockArrived bytes d = Device.wrote { d with
        exec := none
        profiles := ps
        intake := { d.intake with inFlight := d.intake.inFlight.filter fun x => x.slot != slot }
        link := { d.link with inFlight := none } }
      [resultWrite (d.markOf slot) st dt fs, doneWrite (d.markOf slot)] := by
  let x : Device := { endRead d with profiles := ps, exec := none }
  have hx : x.NoProducer := ⟨.inl hcalm.holding, hcalm.slotQueue, hcalm.staging, rfl⟩
  have hbuffer : x.link.buffer = [] := hcalm.buffer
  have hmatches : d.readMatches .executor bytes = true := by simp [Device.readMatches, hrd, hsite, hlen]
  have hcompletes : completePost st dt fs { endRead d with profiles := ps } = completeSlot slot st dt fs x := by
    simp only [completePost, endRead, he]; rfl
  rw [blockArrived, he]
  simp only [hmatches, if_true, hb, hcompletes]
  rw [afterRead, pumpReads_none (by exact hcalm.waiting),
    settleLink_completeSlot hx hcalm.canIssue (by rw [hbuffer]; decide), hbuffer]
  rfl

/-- Settles O38. -/
theorem profileBlockIsCheckedAndApplied : Obligations.ProfileBlockIsCheckedAndApplied := by
  intro s slot isDefault key bytes rd hexec hcalm hrd hsite hlen hbytes v r q passes inRange m done p n
  have hfirst : FirstFailing passes 1 25 v.firstBad := parseProfile_firstBad bytes
  have completes : ∀ {ps : Profiles} {st : Status} {dt : Detail} {fs : List Byte},
      profileBlock isDefault key bytes (endRead s.dev) = completePost st dt fs { endRead s.dev with profiles := ps } →
      exec (.profileBlockReadComplete bytes) s = .next { s with dev := done ps st dt fs } := fun hb =>
    effect_next (f := blockArrived bytes)
      (blockArrived_completes hexec hcalm hrd hsite (hlen.trans hbytes.symm) hb)
  have applied : inRange →
      profileBlock isDefault key bytes (endRead s.dev) = applyProfile isDefault key v (endRead s.dev) := by
    intro hr
    have hnone : v.firstBad = none := hfirst.eq_none fun i hlo hhi => hr i hlo (Nat.le_of_lt_succ hhi)
    simp only [profileBlock, show (parseProfile bytes).firstBad = none from hnone]
    rfl
  refine ⟨fun index hlo hhi hfail hpass => completes ?bad, fun hr hd => completes ((applied hr).trans ?dflt),
    fun hr hd hnew => completes ((applied hr).trans ?created),
    fun before e after hr hd hes he hbefore => completes ((applied hr).trans ?replaced)⟩
  case bad =>
    have hsome : v.firstBad = some index := hfirst.eq_some hlo (Nat.lt_succ_of_le hhi) hfail hpass
    simp only [profileBlock, show (parseProfile bytes).firstBad = some index from hsome]
    rfl
  case dflt => rw [hd]; rfl
  case created =>
    have hload : loadEntry key v (endRead s.dev).profiles.entries = _ := loadEntry_new v hnew
    rw [hd, applyProfile_load hload, List.length_append]
    rfl
  case replaced =>
    have hload := loadEntry_held v (after := after) he hbefore
    rw [← hes] at hload
    have hn : (before ++ { e with rev := e.rev + 1, profile := v } :: after).length = n := by simp [n, hes]
    rw [hd, applyProfile_load (d := endRead s.dev) hload, hn]
    rfl

end Sys2Proof.Machine
end

section
/-!
PROOFS. Each channel's account of its records, produced less delivered, lost and held (R110): what each operation of the
Delivery Unit does to it.
-/
namespace Sys2Proof.Machine

open Sys2Proof

/-! ### The account (R110) -/

/-- The number of a channel's records in a queue, modulo 2^32. -/
def heldIn (ch : Channel) (q : List Record) : BitVec 32 := BitVec.ofNat 32 (q.filter fun r => r.ch == ch).length

@[simp] theorem heldIn_nil (ch : Channel) : heldIn ch [] = 0 := rfl

@[simp] theorem heldIn_append (ch : Channel) (p q : List Record) : heldIn ch (p ++ q) = heldIn ch p + heldIn ch q := by
  simp [heldIn, BitVec.ofNat_add]

theorem heldIn_cons (ch : Channel) (r : Record) (q : List Record) : heldIn ch (r :: q) = heldIn ch [r] + heldIn ch q :=
  heldIn_append ch [r] q

theorem heldIn_singleton (ch : Channel) (r : Record) : heldIn ch [r] = if r.ch = ch then 1 else 0 := by
  by_cases h : r.ch = ch <;> simp [heldIn, h]

/-- GAP does not change whose a record is. -/
@[simp] theorem heldIn_withGap (ch : Channel) (r : Record) : heldIn ch [r.withGap] = heldIn ch [r] := by
  rw [heldIn_singleton, heldIn_singleton]; rfl

@[simp] theorem heldIn_gapApplied (ch : Channel) (r : Record) (d : Device) : heldIn ch [gapApplied r d] = heldIn ch [r] := by
  unfold gapApplied; split <;> simp

@[simp] theorem heldIn_markOldest (ch c : Channel) (q : List Record) : heldIn ch (markOldest c q).1 = heldIn ch q := by
  induction q with
  | nil => rfl
  | cons r q ih =>
    unfold markOldest
    split
    · rw [heldIn_cons, heldIn_withGap, ← heldIn_cons]
    · simp only
      rw [heldIn_cons, ih, ← heldIn_cons]

/-- A channel's counter of records rises by the records of that channel that are counted. -/
theorem PerChannel.get_bump (p : PerChannel (BitVec 32)) (r : Record) (ch : Channel) :
    (p.bump r.ch).get ch = p.get ch + heldIn ch [r] := by
  rw [heldIn_singleton, PerChannel.bump]
  split
  · next h => rw [h, PerChannel.get_set_same]
  · next h => rw [PerChannel.get_set_other p _ (Ne.symm h), add_zero]

theorem balance_eq (d : Device) (ch : Channel) : d.balance ch = d.counters.produced.get ch - d.counters.delivered.get ch
    - d.counters.lost.get ch - heldIn ch d.delivery.holding := rfl

/-! ### Counters, contexts and the Holding Queue -/

@[simp] theorem balance_countProduced (r : Record) (d : Device) (ch : Channel) :
    (countProduced r.ch d).balance ch = d.balance ch + heldIn ch [r] := by
  simp only [balance_eq, countProduced, PerChannel.get_bump]
  ring

@[simp] theorem balance_countDelivered (r : Record) (d : Device) (ch : Channel) :
    (countDelivered r.ch d).balance ch = d.balance ch - heldIn ch [r] := by
  simp only [balance_eq, countDelivered, PerChannel.get_bump]
  ring

@[simp] theorem balance_countLost (r : Record) (d : Device) (ch : Channel) :
    (countLost r.ch d).balance ch = d.balance ch - heldIn ch [r] := by
  simp only [balance_eq, countLost, PerChannel.get_bump]
  ring

@[simp] theorem balance_setGap (c : Channel) (v : Bool) (d : Device) (ch : Channel) :
    (setGap c v d).balance ch = d.balance ch := rfl

@[simp] theorem balance_setCause (c : Cause) (d : Device) (ch : Channel) : (setCause c d).balance ch = d.balance ch := by
  obtain ⟨_, _, h⟩ := setCause_frame c d
  rw [h]; rfl

theorem balance_setHolding (q : List Record) (d : Device) (ch : Channel) :
    (setHolding q d).balance ch = d.balance ch + heldIn ch d.delivery.holding - heldIn ch q := by
  simp only [balance_eq, setHolding]
  ring

/-! ### A record placed (R100, R117) -/

/-- A capture's completion counts no record. -/
@[simp] theorem balance_completeCapture (c : Capture) (reason : Reason) (d : Device) (ch : Channel) :
    (completeCapture c reason d).balance ch = d.balance ch := by cases reason <;> rfl

@[simp] theorem balance_settleCapture (c : Capture) (r : Record) (d : Device) (ch : Channel) :
    (settleCapture c r d).balance ch = d.balance ch := by
  unfold settleCapture; split <;> simp

@[simp] theorem settleCapture_holding (c : Capture) (r : Record) (d : Device) :
    (settleCapture c r d).delivery.holding = d.delivery.holding := by
  unfold settleCapture; split <;> simp

theorem placeIn_holding (c : Capture) (r : Record) (d : Device) :
    (placeIn c r d).delivery.holding = d.delivery.holding := settleCapture_holding _ _ _

/-- A record placed is one more delivered. -/
theorem balance_placeIn (c : Capture) (r : Record) (d : Device) (ch : Channel) :
    (placeIn c r d).balance ch = d.balance ch - heldIn ch [r] :=
  (balance_settleCapture _ _ _ ch).trans (balance_countDelivered r (enterBuffer (recordWrite c r) d) ch)

/-! ### A record held, discarded or evicted (R101 to R105) -/

/-- A record that joins the Holding Queue is one more held. -/
theorem balance_joinHolding (r : Record) (d : Device) (ch : Channel) :
    (joinHolding r d).balance ch = d.balance ch - heldIn ch [r] := by
  have hjoined : (setGap r.ch false (setHolding (d.delivery.holding ++ [gapApplied r d]) d)).balance ch
      = d.balance ch - heldIn ch [r] := by
    rw [balance_setGap, balance_setHolding, heldIn_append, heldIn_gapApplied]
    ring
  unfold joinHolding
  simp only
  split
  · rw [balance_setCause, hjoined]
  · exact hjoined

/-- A record evicted is one less held and one more lost. -/
theorem balance_evict (d : Device) (ch : Channel) : (evict d).balance ch = d.balance ch := by
  unfold evict
  split
  · rfl
  · next before e after hv =>
    have hlost : (countLost e.ch (setHolding (before ++ (markOldest e.ch after).1) d)).balance ch = d.balance ch := by
      rw [balance_countLost, balance_setHolding, chooseVictim_eq hv, heldIn_append, heldIn_append, heldIn_markOldest,
        heldIn_cons ch e]
      ring
    rw [balance_setCause]
    split
    · exact hlost
    · rw [balance_setGap, hlost]

/-- A record offered to the Holding Queue is one more held or, when it is discarded, one more lost. -/
theorem balance_appendHolding (r : Record) (d : Device) (ch : Channel) :
    (appendHolding r d).balance ch = d.balance ch - heldIn ch [r] := by
  unfold appendHolding
  split
  · exact balance_joinHolding r d ch
  · split
    · rw [balance_setCause, balance_setGap, balance_countLost]
    · rw [balance_joinHolding, balance_evict]

/-- A record delivered is one more placed, held or lost. -/
theorem balance_deliver (r : Record) (d : Device) (ch : Channel) :
    (deliver r d).balance ch = d.balance ch - heldIn ch [r] := by
  unfold deliver
  split
  · split
    · rw [balance_placeIn, heldIn_gapApplied, balance_setGap]
    · exact balance_appendHolding r d ch
  · exact balance_appendHolding r d ch

/-! ### The drain (R106) -/

/-- What a drain places it holds no longer. -/
theorem balance_drainGo (ch : Channel) (q : List Record) : ∀ (b : PerChannel Bool) (d : Device),
    (setHolding (drainGo q b d).1 (drainGo q b d).2).balance ch = (setHolding q d).balance ch := by
  have hstays : ∀ {p q : List Record} {d e : Device} (r : Record),
      (setHolding p e).balance ch = (setHolding q d).balance ch →
      (setHolding (r :: p) e).balance ch = (setHolding (r :: q) d).balance ch := by
    intro p q d e r h
    simp only [balance_setHolding] at h
    rw [balance_setHolding, balance_setHolding, heldIn_cons, heldIn_cons ch r q, sub_add_eq_sub_sub_swap, h]
    ring
  induction q with
  | nil => intro b d; rfl
  | cons r rest ih =>
    intro b d
    unfold drainGo
    split
    · exact hstays r (ih _ _)
    · split
      · exact hstays r (ih _ _)
      · split
        · rw [ih, balance_setHolding, balance_setHolding, balance_placeIn, placeIn_holding, heldIn_cons ch r rest]
          ring
        · rfl

theorem balance_drainWalk (d : Device) (ch : Channel) : (drainWalk d).balance ch = d.balance ch := by
  unfold drainWalk
  split
  · rfl
  · exact balance_drainGo ch _ _ d

/-- Settles O54. -/
theorem recordAccountIsKept : Obligations.RecordAccountIsKept := by
  intro d r ch
  refine ⟨?_, balance_drainWalk d ch⟩
  rw [balance_deliver, balance_countProduced]
  ring

end Sys2Proof.Machine
end

section
/-!
PROOFS. A full Holding Queue (R102 to R105): a plain hover record is discarded, and a marked one takes the place of the
record that R103 evicts.
-/
namespace Sys2Proof.Machine

open Sys2Proof

/-! ### The record evicted (R97, R103) -/

theorem Record.plainHover_iff (r : Record) : r.plainHover = true ↔ r.state = .hover ∧ r.event = .none := by
  simp [Record.plainHover]

/-- The queue around a plain hover record with none before it. -/
theorem splitPlain_oldest {before : List Record} {e : Record} (after : List Record) (he : e.plainHover = true)
    (hb : ∀ y ∈ before, ¬y.plainHover = true) : splitPlain (before ++ e :: after) = some (before, e, after) := by
  induction before with
  | nil => rw [List.nil_append, splitPlain, if_pos he]
  | cons b rest ih =>
    obtain ⟨hplain, hrest⟩ := List.forall_mem_cons.1 hb
    rw [List.cons_append, splitPlain, if_neg hplain, ih hrest]

theorem splitPlain_none {q : List Record} (h : ∀ y ∈ q, ¬y.plainHover = true) : splitPlain q = none := by
  induction q with
  | nil => rfl
  | cons b rest ih =>
    obtain ⟨hplain, hrest⟩ := List.forall_mem_cons.1 h
    rw [splitPlain, if_neg hplain, ih hrest]

/-- The record evicted is the oldest plain hover record, or with none held the oldest record (R103). -/
theorem chooseVictim_of {before after : List Record} {e : Record}
    (h : (e.plainHover = true ∧ ∀ y ∈ before, ¬y.plainHover = true)
      ∨ (before = [] ∧ ∀ y ∈ before ++ e :: after, ¬y.plainHover = true)) :
    chooseVictim (before ++ e :: after) = some (before, e, after) := by
  rcases h with ⟨he, hb⟩ | ⟨rfl, hnone⟩
  · simp only [chooseVictim, splitPlain_oldest after he hb]
  · simp only [chooseVictim, splitPlain_none hnone]; rfl

/-! ### Where GAP goes (R104) -/

/-- GAP is set on the oldest record of the channel. -/
theorem markOldest_marks {ch : Channel} {mid : List Record} {x : Record} (last : List Record)
    (hmid : ∀ y ∈ mid, y.ch ≠ ch) (hx : x.ch = ch) :
    markOldest ch (mid ++ x :: last) = (mid ++ x.withGap :: last, true) := by
  induction mid with
  | nil => rw [List.nil_append, markOldest, if_pos hx]; rfl
  | cons y rest ih =>
    obtain ⟨hy, hrest⟩ := List.forall_mem_cons.1 hmid
    rw [List.cons_append, markOldest, if_neg hy, ih hrest]; rfl

/-- With no record of the channel held none is marked. -/
theorem markOldest_none {ch : Channel} {q : List Record} (h : ∀ y ∈ q, y.ch ≠ ch) : markOldest ch q = (q, false) := by
  induction q with
  | nil => rfl
  | cons y rest ih =>
    obtain ⟨hy, hrest⟩ := List.forall_mem_cons.1 h
    rw [markOldest, if_neg hy, ih hrest]

/-- The part once the GAP of an evicted record is with a held record of its channel, or else pending there. -/
def Device.gapMoved (d : Device) (ch : Channel) (marked : Bool) : Device := if marked then d else setGap ch true d

/-- The context of a channel whose gap pending takes a value. -/
theorem Device.ctx_setGap_same (d : Device) (ch : Channel) (v : Bool) :
    (setGap ch v d).ctx ch = { d.ctx ch with gap := v } := d.ctx_setCtx_same ch _

theorem Device.ctx_setGap_other (d : Device) {ch ch' : Channel} (v : Bool) (h : ch' ≠ ch) :
    (setGap ch v d).ctx ch' = d.ctx ch' := d.ctx_setCtx_other _ h

/-- An evicted record's channel has its gap pending where no record of it is held. -/
theorem Device.gapMoved_gap (d : Device) (c ch : Channel) :
    ((d.gapMoved c false).ctx ch).gap = true ↔ (d.ctx ch).gap = true ∨ c = ch := by
  by_cases h : c = ch
  · simp [Device.gapMoved, h, Device.ctx_setGap_same]
  · simp [Device.gapMoved, h, Device.ctx_setGap_other d true (Ne.symm h)]

/-! ### A record offered to a full queue (R102, R103, R105) -/

section
variable {d : Device} {r : Record} (hfull : d.delivery.holding.length = 64)
include hfull

/-- A plain hover record is discarded. -/
theorem appendHolding_discards (hr : r.plainHover = true) :
    appendHolding r d = setCause .hold (setGap r.ch true (countLost r.ch d)) := by
  rw [appendHolding, if_neg (by rw [hfull]; decide), if_pos hr]

/-- A marked record joins the newest end once another has been evicted for it. -/
theorem appendHolding_evicts {before after q : List Record} {e : Record} {marked : Bool} (hr : ¬r.plainHover = true)
    (hv : chooseVictim d.delivery.holding = some (before, e, after)) (hm : markOldest e.ch after = (q, marked)) :
    ∃ sent msg, appendHolding r d = setGap r.ch false { d.gapMoved e.ch marked with
      delivery := { d.delivery with holding := before ++ q ++ [gapApplied r (d.gapMoved e.ch marked)] }
      counters := { d.counters with lost := d.counters.lost.bump e.ch }
      link := { d.link with sent := sent }
      regs := { d.regs with event := d.regs.event ||| 8, msgPending := msg } } := by
  let x : Device := { d.gapMoved e.ch marked with
    delivery := { d.delivery with holding := before ++ q }
    counters := { d.counters with lost := d.counters.lost.bump e.ch } }
  have hevict : evict d = setCause .hold x := by
    simp only [evict, hv, hm]
    cases marked <;> rfl
  have hlen : (before ++ q).length = 63 := by
    have hq : q.length = after.length := by rw [← length_markOldest e.ch after, hm]
    have hsplit := congrArg List.length (chooseVictim_eq hv)
    simp only [hfull, List.length_append, List.length_cons] at hsplit
    rw [List.length_append]
    omega
  obtain ⟨sent, msg, hset⟩ := setCause_frame .hold x
  refine ⟨sent, msg, ?_⟩
  rw [appendHolding, if_neg (by rw [hfull]; decide), if_neg hr, hevict, hset, joinHolding, if_neg (by simp [x, hlen])]
  cases marked <;> rfl

end

/-- Settles O55. -/
theorem fullQueueLosesPlainHoverFirst : Obligations.FullQueueLosesPlainHoverFirst := by
  intro d r hfull gapped plain t
  have hplain : ∀ y : Record, plain y ↔ y.plainHover = true := fun y => y.plainHover_iff.symm
  refine ⟨fun hr => ?discards, fun before e after hr hq hvictim => ?evicts⟩
  case discards =>
    obtain ⟨sent, msg, hset⟩ := setCause_frame .hold (setGap r.ch true (countLost r.ch d))
    have ht : t = _ := (appendHolding_discards hfull ((hplain r).1 hr)).trans hset
    rw [ht]
    refine ⟨rfl, ?_, PerChannel.get_set_same _ _ _, rfl⟩
    exact congrArg Context.gap (Device.ctx_setGap_same (countLost r.ch d) r.ch true)
  case evicts =>
    have hv : chooseVictim d.delivery.holding = some (before, e, after) := by
      simp only [hplain, hq] at hvictim
      rw [hq]
      exact chooseVictim_of hvictim
    have hmoved : ∀ {q : List Record} {marked : Bool}, markOldest e.ch after = (q, marked) →
        (t.delivery = { d.delivery with holding := before ++ q ++ [gapApplied r (d.gapMoved e.ch marked)] }
          ∧ (t.ctx r.ch).gap = false ∧ ∀ ch, ch ≠ r.ch → t.ctx ch = (d.gapMoved e.ch marked).ctx ch)
        ∧ t.counters.lost.get e.ch = d.counters.lost.get e.ch + 1 ∧ t.regs.event = d.regs.event ||| 8 := by
      intro q marked hm
      obtain ⟨sent, msg, ht⟩ := appendHolding_evicts hfull (mt (hplain r).2 hr) hv hm
      have ht : t = _ := ht
      rw [ht]
      exact ⟨⟨rfl, congrArg Context.gap (Device.ctx_setGap_same _ r.ch false),
        fun ch hch => Device.ctx_setGap_other _ false hch⟩, PerChannel.get_set_same _ _ _, rfl⟩
    obtain ⟨⟨-, hgap, -⟩, hlost, hevent⟩ := hmoved rfl
    refine ⟨hlost, hevent, hgap, fun mid x last ha hmid hx => ?held, fun hnone => ?pending⟩
    case held =>
      obtain ⟨⟨hd, -, hctx⟩, -⟩ := hmoved (ha ▸ markOldest_marks last hmid hx)
      refine ⟨?_, hctx⟩
      rw [hd, List.append_assoc before mid]
      rfl
    case pending =>
      obtain ⟨⟨hd, -, hctx⟩, -⟩ := hmoved (markOldest_none hnone)
      refine ⟨?_, fun hch => ?_⟩
      · simp only [hd, gapApplied, Device.gapMoved_gap]
        rfl
      · rw [hctx e.ch hch]
        exact congrArg Context.gap (Device.ctx_setGap_same d e.ch true)

end Sys2Proof.Machine
end

section
/-!
PROOFS. CAPTURE, found by a sweep (R112, R113, R136, R137), and the drain of a held record into the capture it opens (R106,
R116, R117, R120).
-/
namespace Sys2Proof.Machine

open Sys2Proof

/-! ### A slot found where no producer waits (R133 to R138) -/

/-- A sweep finds the slot as Device.Finds says, but records may be held where no capture is open to drain them into. -/
structure Device.Meets (d : Device) (slot : Fin 32) (kind : Byte) : Prop where
  finds : Device.Finds { d with delivery := { holding := [], captures := [] } } slot kind
  drain : d.delivery.holding = [] ∨ d.delivery.captures = []

theorem Device.Finds.meets {d : Device} {slot : Fin 32} {kind : Byte} (h : d.Finds slot kind) : d.Meets slot kind where
  finds :=
    ⟨{ h.calm with holding := rfl, bulk := bulkGrant_none_of_exec (by rfl) h.calm.bulk }, h.waits, h.unprompted, h.clear⟩
  drain := .inl h.calm.holding

section
variable {d : Device} {slot : Fin 32}

theorem Device.Meets.noProducer {kind : Byte} (h : d.Meets slot kind) : d.NoProducer :=
  ⟨h.drain, h.finds.calm.slotQueue, h.finds.calm.staging, bulkGrant_none_of_exec (by rfl) h.finds.calm.bulk⟩

/-- The post is settled, and the sweep goes on. -/
theorem postFound_meets {p : Post} (h : d.Meets slot (postKind p)) (notify : Bool) :
    ∃ sw rest, d.intake.sweep = some sw ∧ sw.phase = .body slot rest ∧ (d.regs.batch = false ∨ rest = [])
      ∧ postFound slot notify p d
        = afterRead (sweepGoesOn rest (endRead d) (settlePost (d.foundMark slot (postKind p) notify) p (endRead d))) := by
  obtain ⟨sw, rest, f, hs, hp, hk, hf, hb, hr⟩ := h.finds.waits
  have hs : d.intake.sweep = some sw := hs
  have hm : sw.mark slot notify = d.foundMark slot (postKind p) notify := by
    simp only [Sweep.mark, Device.foundMark, Device.sweepBase, hs, hk]
  have hc : (endRead d).isInFlight (sw.mark slot notify).slot = false := h.finds.clear
  refine ⟨sw, rest, hs, hp, hr, ?_⟩
  rw [postFound_awaited notify ((awaitsBody_iff d slot _).2 ⟨sw, rest, f, hs, hp, hk, hf, hb⟩) hs hp, settleBody,
    if_neg (by simp [hc]), hm]

/-- A post that is taken or rejected ends the sweep. -/
theorem postFound_settles {p : Post} {x : Device} (h : d.Meets slot (postKind p)) (notify : Bool)
    (hx : settlePost (d.foundMark slot (postKind p) notify) p (endRead d) = some x) (hb : d.Begun x) :
    postFound slot notify p d = setSweep none x := by
  obtain ⟨sw, rest, hs, -, hr, hfound⟩ := postFound_meets h notify
  have hsweep : x.intake.sweep.isSome = true := by rw [hb.sweep, hs]; rfl
  rw [hfound, hx, sweepGoesOn_ends (by rw [hb.batch]; exact hr),
    sweepDone_unprompted hsweep (hb.prompt.trans h.finds.unprompted), afterRead,
    pumpReads_none (by exact hb.waiting.trans h.finds.calm.waiting)]
  exact settleLink_settled (d := setSweep none x) (hb.settled.keep rfl rfl rfl rfl)

/-- A slot that is rejected: its result and DONE are in the buffer, and its mark is clear again (R137). -/
theorem rejectSlot_meets {kind : Byte} (h : d.Meets slot kind) (notify : Bool) (dt : Detail) :
    rejectSlot (d.foundMark slot kind notify) dt (endRead d)
      = (endRead d).rejectedSlot (d.foundMark slot kind notify) dt := by
  let m := d.foundMark slot kind notify
  let x := setRotation slot ((endRead d).marked m)
  have hn : x.NoProducer := h.noProducer.keep rfl rfl rfl rfl
  have hbuffer : x.link.buffer = [] := h.finds.calm.buffer
  have hmark : x.markOf slot = m := markOf_marked (endRead d) m
  have hclear : clearMark slot x = (endRead d).rotated slot :=
    congrArg (setRotation slot) (clearMark_marked (d := endRead d) (m := m) h.finds.clear)
  have hset : setRotation slot (handOver [resultWrite m .rejected dt [], doneWrite m] (setMark m (endRead d)))
      = completeSlot slot .rejected dt [] x := by
    rw [setMark_clear (by exact h.finds.clear), completeSlot, hmark]; rfl
  have hdone := settleLink_completeSlot hn h.finds.calm.canIssue (by simp [hbuffer]) slot .rejected dt []
  rw [hmark, hclear, hbuffer] at hdone
  rw [rejectSlot]
  exact (congrArg settleLink hset).trans hdone

/-- A slot that is taken: its work begins on Device.taking (R136). -/
theorem takeSlot_meets {kind : Byte} (h : d.Meets slot kind) (notify : Bool) (handOn : Device → Device) :
    takeSlot (d.foundMark slot kind notify) handOn (endRead d)
      = settleLink (setRotation slot (handOn (d.taking (d.foundMark slot kind notify)))) := by
  let m := d.foundMark slot kind notify
  have hn : ((endRead d).marked m).NoProducer := h.noProducer.keep rfl rfl rfl rfl
  have hbuffer : ((endRead d).marked m).link.buffer = [] := h.finds.calm.buffer
  have htaken : slotWriteIn (takenWrite m) ((endRead d).marked m) = d.taking m := by
    rw [slotWriteIn, enterSlotWrite_eq, hbuffer]; rfl
  have hgrants : grants (handOver [takenWrite m] ((endRead d).marked m)) = d.taking m :=
    (grantEntries_handOver hn (by simp) (by simp [hbuffer])).trans htaken
  rw [takeSlot, setMark_clear (by exact h.finds.clear), hgrants]
  rfl

end

/-! ### The checks (R112) -/

theorem parseMask_channels {m : Byte} (h : m = 1 ∨ m = 2 ∨ m = 3) :
    parseMask m = some { a := m.getLsbD 0, b := m.getLsbD 1 } := by
  rcases h with rfl | rfl | rfl <;> rfl

theorem parseMask_none {m : Byte} (h : ¬(m = 1 ∨ m = 2 ∨ m = 3)) : parseMask m = none := by
  unfold parseMask
  split
  · next hm => exact absurd (.inl (BitVec.eq_of_toNat_eq hm)) h
  · next hm => exact absurd (.inr (.inl (BitVec.eq_of_toNat_eq hm))) h
  · next hm => exact absurd (.inr (.inr (BitVec.eq_of_toNat_eq hm))) h
  · rfl

section
variable {p : CaptureParams}

theorem captureReject_range (h : p.capacity = 0 ∨ ¬(p.mask = 1 ∨ p.mask = 2 ∨ p.mask = 3)) :
    captureReject p = some .range := by
  unfold captureReject
  split
  · rfl
  · next hcap => rw [parseMask_none (h.resolve_left hcap)]; rfl

theorem captureReject_inRange (hcap : p.capacity ≠ 0) (hmask : p.mask = 1 ∨ p.mask = 2 ∨ p.mask = 3) :
    captureReject p = if p.buffer.toNat % 32 = 0 then none else some .align := by
  rw [captureReject, if_neg hcap, parseMask_channels hmask]
  simp [aligned]

end

/-! ### A CAPTURE that is handled (R112, R113, R134) -/

section
variable {d : Device} {slot : Fin 32} {p : CaptureParams} {notify : Bool}

/-- With room in the Capture Queue the body is handled. -/
theorem settlePost_capture (hroom : d.delivery.captures.length < 16) (m : SlotMark) :
    settlePost m (.capture p) d = some (handleCapture m p d) := by
  have hnoRoom : d.noRoom (postKind (.capture p)) = false := by
    simp [Device.noRoom, postKind, executorKind, hroom]
  rw [settlePost, if_neg (by simp [hnoRoom]), if_neg (fun h => absurd h.1 (by decide : (1 : Byte) ≠ 6))]
  rfl

/-- A CAPTURE that a check fails is rejected. -/
theorem capture_rejected (h : d.Meets slot 1) (hroom : d.delivery.captures.length < 16) {dt : Detail}
    (hr : captureReject p = some dt) : postFound slot notify (.capture p) d
      = d.swept.rejectedSlot (d.foundMark slot 1 notify) dt := by
  have hx : settlePost (d.foundMark slot 1 notify) (.capture p) (endRead d)
      = some ((endRead d).rejectedSlot (d.foundMark slot 1 notify) dt) := by
    rw [settlePost_capture (by exact hroom), handleCapture, hr, ← rejectSlot_meets h]
  rw [postFound_settles h notify hx ⟨rfl, rfl, rfl, rfl, h.noProducer.keep rfl rfl rfl rfl, .inr rfl⟩]
  rfl

/-- A CAPTURE that passes the checks is taken: its capture opens and the Holding Queue is drained. -/
theorem capture_taken (h : d.Meets slot 1) (hroom : d.delivery.captures.length < 16) (hr : captureReject p = none)
    {x : Device} (hx : settleLink (setRotation slot (openCapture slot p (d.taking (d.foundMark slot 1 notify)))) = x)
    (hb : d.Begun x) : postFound slot notify (.capture p) d = setSweep none x := by
  refine postFound_settles h notify ?_ hb
  rw [settlePost_capture (by exact hroom), handleCapture, hr]
  exact congrArg some ((takeSlot_meets h notify (openCapture slot p)).trans hx)

/-- A full Capture Queue passes the last slot of a sweep over. -/
theorem capture_skipped (h : d.Finds slot 1) (hfull : 16 ≤ d.delivery.captures.length)
    (hlast : ∀ sw, d.intake.sweep = some sw → sw.phase = .body slot []) :
    postFound slot notify (.capture p) d = d.swept := by
  obtain ⟨sw, rest, hs, hp, -, hfound⟩ := postFound_meets (p := .capture p) h.meets notify
  obtain rfl : rest = [] := (SweepPhase.body.inj (hp.symm.trans (hlast sw hs))).2
  have hnoRoom : (endRead d).noRoom (postKind (.capture p)) = true := by
    simp [Device.noRoom, postKind, hfull]
  have hsettled : (setSweep none (endRead d)).Settled :=
    ⟨h.calm.noProducer.keep rfl rfl rfl rfl, .inl h.calm.buffer⟩
  rw [hfound, settlePost, if_pos hnoRoom, sweepGoesOn, walk,
    sweepDone_unprompted (x := endRead d) (by simp [hs]) h.unprompted, afterRead,
    pumpReads_none (by exact h.calm.waiting), settleLink_settled hsettled]
  rfl

end

/-! ### A record drained into the one capture (R106, R116, R117, R120) -/

section
variable {d : Device} {k : Capture} {r : Record}

/-- The part once its one capture has received a record, whose write is in the buffer. -/
def Device.filled (d : Device) (k : Capture) (r : Record) (caps : List Capture) : Device :=
  { d with
    delivery := { d.delivery with captures := caps }
    link := { d.link with buffer := d.link.buffer ++ [recordWrite k r] }
    counters := { d.counters with delivered := d.counters.delivered.bump r.ch } }

theorem putCapture_only (hk : d.delivery.captures = [k]) : putCapture (k.receive r)
    (countDelivered r.ch (enterBuffer (recordWrite k r) d)) = d.filled k r [k.receive r] := by
  simp [putCapture, countDelivered, enterBuffer, hk, Capture.receive, Device.filled]

/-- The capture goes on after the record. -/
theorem placeIn_goesOn (hk : d.delivery.captures = [k]) (he : (k.receive r).endReason r = none) :
    placeIn k r d = d.filled k r [k.receive r] := by
  rw [placeIn, putCapture_only hk, settleCapture, he]

/-- The capture completes with the record. -/
theorem placeIn_completes {e : Reason} (hk : d.delivery.captures = [k]) (he : (k.receive r).endReason r = some e) :
    placeIn k r d = completeSlot k.slot e.status .none ((k.receive r).fields e)
      { d.filled k r [] with counters := (d.filled k r []).counters.bumpReason e } := by
  rw [placeIn, putCapture_only hk, settleCapture, he]
  simp [completeCapture, Device.filled, Capture.receive]

/-- A drain walk whose oldest record a capture takes, and which then leaves the others held. -/
theorem drainWalk_places {more : List Record} (hh : d.link.halted = false) (hf : d.link.free = true)
    (hq : d.delivery.holding = r :: more) (hk : firstTaking d.delivery.captures r.ch = some k)
    (hmore : ∀ b, drainGo more b (placeIn k r d) = (more, placeIn k r d)) :
    drainWalk d = setHolding more (placeIn k r d) := by
  have hunblocked : ({ a := false, b := false } : PerChannel Bool).get r.ch = false := by cases r.ch <;> rfl
  rw [drainWalk, if_neg (by simp [hh]), hq, drainGo, if_neg (by simp [hunblocked]), hk]
  simp only
  rw [if_pos hf, hmore]

end
/-! ### The capture opened (R113) -/

/-- The part whose slot is being taken, with what the slot's work has made of the Delivery Unit, the buffer and the
counters. -/
def Device.worked (d : Device) (m : SlotMark) (v : Delivery) (b : List HostWrite) (n : Counters) : Device :=
  { d with
    delivery := v
    link := { d.link with inFlight := none, buffer := b }
    intake := { d.intake with inFlight := m :: d.intake.inFlight }
    counters := n }

section
variable {d : Device} {m : SlotMark} {v : Delivery} {b : List HostWrite} {n : Counters}

theorem taking_worked (d : Device) (m : SlotMark) : d.taking m = d.worked m d.delivery [takenWrite m] d.counters := rfl

theorem worked_setHolding (q : List Record) :
    setHolding q (d.worked m v b n) = d.worked m { v with holding := q } b n := rfl

theorem worked_filled (k : Capture) (r : Record) (caps : List Capture) : (d.worked m v b n).filled k r caps
    = d.worked m { v with captures := caps } (b ++ [recordWrite k r]) { n with delivered := n.delivered.bump r.ch } := rfl

theorem Device.Meets.worked_noProducer {slot : Fin 32} {kind : Byte} (h : d.Meets slot kind)
    (hv : v.holding = [] ∨ v.captures = []) : (setRotation slot (d.worked m v b n)).NoProducer :=
  ⟨hv, h.noProducer.slotQueue, h.noProducer.staging, bulkGrant_none_of_exec (d := d) rfl h.noProducer.bulk⟩

end

section
variable {d : Device} {slot : Fin 32} {p : CaptureParams} {notify : Bool}

/-- A CAPTURE whose capture goes on: its mark and its writes stand. -/
theorem capture_begins (h : d.Meets slot 1) (hroom : d.delivery.captures.length < 16) (hr : captureReject p = none)
    {v : Delivery} {b : List HostWrite} {n : Counters} (hv : v.holding = [] ∨ v.captures = []) (hb : b ≠ [])
    (ho : openCapture slot p (d.taking (d.foundMark slot 1 notify)) = d.worked (d.foundMark slot 1 notify) v b n) :
    postFound slot notify (.capture p) d
      = (((Device.rotated { d.swept with delivery := v, counters := n } slot).marked (d.foundMark slot 1 notify)).wrote
        b) := by
  have hn := h.worked_noProducer (m := d.foundMark slot 1 notify) (b := b) (n := n) hv
  have hx := (congrArg (fun x => settleLink (setRotation slot x)) ho).trans
    (settleLink_issues hn h.finds.calm.canIssue hb)
  exact (capture_taken h hroom hr hx ⟨rfl, rfl, rfl, rfl, hn.keep rfl rfl rfl rfl, .inr rfl⟩).trans rfl

/-- With no record held the capture opens, and the slot's TAKEN write stands. -/
theorem capture_opens (h : d.Finds slot 1) (hroom : d.delivery.captures.length < 16) (hr : captureReject p = none) :
    postFound slot notify (.capture p) d = Device.tookSlot
      { d.swept with delivery := { d.delivery with captures := d.delivery.captures ++ [newCapture slot p] } }
      (d.foundMark slot 1 notify) :=
  capture_begins h.meets hroom hr (.inl h.calm.holding) (List.cons_ne_nil _ _)
    (drainWalk_nil (d := d.worked _ _ _ _) h.calm.holding)

/-- The part once the one record held has been drained into the capture that a CAPTURE opened: the captures and the
completion counters that leaves. -/
def Device.drained (d : Device) (r : Record) (n : Counters) (caps : List Capture) : Device :=
  { d.swept with
    delivery := { holding := [], captures := caps }
    counters := { n with delivered := d.counters.delivered.bump r.ch } }

/-- A completion counter and a count of records delivered do not touch each other. -/
theorem Counters.bumpReason_delivered (n : Counters) (v : PerChannel (BitVec 32)) (e : Reason) :
    Counters.bumpReason { n with delivered := v } e = { n.bumpReason e with delivered := v } := by cases e <;> rfl

variable {r : Record} (h : d.Meets slot 1) (hd : d.delivery = { holding := [r], captures := [] })
  (hch : (newCapture slot p).mask.get r.ch = true)

section
include h hd hch

/-- The record held is placed in the capture that opens. -/
theorem openCapture_places (m : SlotMark) : openCapture slot p (d.taking m) = setHolding [] (placeIn (newCapture slot p) r
    (d.worked m { holding := [r], captures := [newCapture slot p] } [takenWrite m] d.counters)) := by
  rw [taking_worked, hd]
  refine drainWalk_places (d := d.worked _ _ _ _) h.finds.calm.live rfl rfl ?_ (fun _ => rfl)
  simp [Device.worked, firstTaking, Capture.takes, hch]

end

variable (hr : captureReject p = none)
include h hd hch hr

/-- The capture goes on after the record: the slot's TAKEN write is followed by the record's. -/
theorem capture_goesOn (he : ((newCapture slot p).receive r).endReason r = none) :
    postFound slot notify (.capture p) d = Device.wrote
      (((d.drained r d.counters [(newCapture slot p).receive r]).rotated slot).marked (d.foundMark slot 1 notify))
      [takenWrite (d.foundMark slot 1 notify), recordWrite (newCapture slot p) r] := by
  refine capture_begins h (by simp [hd]) hr (.inl rfl) (List.cons_ne_nil _ _) ?_
  rw [openCapture_places h hd hch, placeIn_goesOn rfl he, worked_filled, worked_setHolding]
  rfl

/-- The capture completes with the record: its result and DONE follow, and its mark is clear again (R120, R138). -/
theorem capture_completes {e : Reason} (he : ((newCapture slot p).receive r).endReason r = some e) :
    postFound slot notify (.capture p) d = Device.wrote ((d.drained r (d.counters.bumpReason e) []).rotated slot)
      [takenWrite (d.foundMark slot 1 notify), recordWrite (newCapture slot p) r,
        resultWrite (d.foundMark slot 1 notify) e.status .none (((newCapture slot p).receive r).fields e),
        doneWrite (d.foundMark slot 1 notify)] := by
  let m := d.foundMark slot 1 notify
  let k := newCapture slot p
  let y := setRotation slot (d.worked m { holding := [], captures := [] } [takenWrite m, recordWrite k r]
    { d.counters.bumpReason e with delivered := d.counters.delivered.bump r.ch })
  have hy : setRotation slot (openCapture slot p (d.taking m))
      = completeSlot slot e.status .none ((k.receive r).fields e) y := by
    rw [openCapture_places h hd hch, placeIn_completes (d := d.worked _ _ _ _) rfl he, worked_filled]
    simp only [Device.worked, Counters.bumpReason_delivered]
    rfl
  have hn : y.NoProducer := h.worked_noProducer (.inl rfl)
  have hmark : y.markOf slot = m := markOf_marked d m
  have hclear : y.intake.inFlight.filter (fun x => x.slot != slot) = d.intake.inFlight :=
    h.finds.taking_unmarked notify
  have hx := settleLink_completeSlot hn h.finds.calm.canIssue (Nat.le_refl 2) slot e.status .none ((k.receive r).fields e)
  rw [hmark] at hx
  rw [capture_taken h (by simp [hd]) hr ((congrArg settleLink hy).trans hx)
    ⟨rfl, rfl, rfl, rfl, hn.keep rfl rfl rfl rfl, .inr rfl⟩]
  simp only [setSweep, clearMark, Device.wrote, hclear]
  rfl

end

/-- Settles O33. -/
theorem captureOpensOrRejects : Obligations.CaptureOpensOrRejects := by
  intro s slot notify p m maskOk c opened
  have found : ∀ {d : Device}, postFound slot notify (.capture p) s.dev = d →
      Sys2Proof.Machine.exec (.capture slot notify p) s = .next { s with dev := d } :=
    fun h => effect_next (f := postFound slot notify (.capture p)) h
  have hc : maskOk → newCapture slot p = c := fun hmask => by
    rw [newCapture, parseMask_channels hmask]; rfl
  refine ⟨fun h hfull hlast => found (capture_skipped h hfull hlast),
    fun h hroom hrange => found (capture_rejected h.meets hroom (captureReject_range hrange)),
    fun h hroom hcap hmask halign => found (capture_rejected h.meets hroom
      ((captureReject_inRange hcap hmask).trans (if_neg halign))),
    fun h hroom hcap hmask halign => found ?opens,
    fun r hd hfinds hcap hmask halign hch => ?drains⟩
  case opens =>
    rw [capture_opens h hroom ((captureReject_inRange hcap hmask).trans (if_pos halign)), hc hmask]
  case drains =>
    intro record c' drained completes proxOut lift full k
    have h : s.dev.Meets slot 1 := ⟨hfinds, by rw [hd]; exact .inr rfl⟩
    have hr : captureReject p = none := (captureReject_inRange hcap hmask).trans (if_pos halign)
    have hreceive : (newCapture slot p).receive r = c' := by rw [hc hmask]; rfl
    have hrecord : recordWrite (newCapture slot p) r = record := by
      simp [recordWrite, newCapture, record]
    have hcompletes : ∀ {e : Reason}, c'.endReason r = some e → e.status = .ok → completes (k.bumpReason e) e := by
      intro e he hok
      have hpost := capture_completes (notify := notify) h hd (hc hmask ▸ hch) hr (hreceive ▸ he)
      rw [hreceive, hrecord, hok] at hpost
      exact found hpost
    refine ⟨fun hp hl hf => found ?goesOn, fun hp => hcompletes (Capture.endReason_proxOut hp) rfl,
      fun hp hl => hcompletes (Capture.endReason_lift hp hl) rfl,
      fun hp hl hf => hcompletes (Capture.endReason_full hp hl hf.symm) rfl⟩
    have he : c'.endReason r = none := Capture.endReason_none hp hl (Ne.symm hf)
    rw [capture_goesOn h hd (hc hmask ▸ hch) hr (hreceive ▸ he), hreceive, hrecord]
    rfl

end Sys2Proof.Machine
end

section
/-!
PROOFS. RESUME (R99, R106, R166, R167, R171, R176): HALTED is left, the Holding Queue is drained, and the head write is
issued or faults again.
-/
namespace Sys2Proof.Machine

open Sys2Proof

/-! ### The CONTROL write (R176, R180) -/

/-- RESUME with a word its row allows is that CONTROL write. -/
theorem exec_resume {w : BitVec 32} (h : (Instr.resume w).wf = true) (s : State) :
    Sys2Proof.Machine.exec (.resume w) s = .next (onDevice (controlWrite w) s) := by
  simp only [Instr.wf, Bool.and_eq_true, Bool.not_eq_true'] at h
  show Host.Outcome.next (onDevice (controlWrite (withBit w 3 true)) s) = _
  rw [withBit_eq (by decide) h.1 h.2]

/-- The part with a pending message dropped where the interrupt condition does not hold. -/
def Device.tested (d : Device) : Device :=
  { d with regs := { d.regs with msgPending := d.regs.msgPending && d.regs.condition } }

/-- A CONTROL write with RESUME and the fields that CONTROL holds. -/
theorem controlWrite_resume {w : BitVec 32} {d : Device} (h : d.regs.sameFields w) (h3 : w.getLsbD 3 = true) :
    controlWrite w d = resumeAct d.tested := by
  obtain ⟨hrun, hintake, hbatch, hmask⟩ := h
  have hfields : controlFields w d = d.tested := by
    rw [controlFields_sameMask hmask, hrun, hintake, hbatch]; rfl
  have hrunEdge : runEdge d.regs.run d.tested = d.tested := runEdge_none (.inl id)
  have hintakeEdge : intakeEdge d.regs.intake d.tested = d.tested := if_neg (by simp [Device.tested])
  simp only [controlWrite, hfields, hrunEdge, hintakeEdge, h3, if_true]

/-! ### What the grants leave (R161 to R163) -/

/-- What neither a drain nor a grant touches: HALTED, the Fault Record, the head's issue, EVENT and the sweep. -/
def Device.headView (d : Device) : Bool × Option FaultEntry × Bool × BitVec 4 × Option Sweep :=
  (d.link.halted, d.link.faultRecord, d.link.issued, d.regs.event, d.intake.sweep)

/-- Writes have joined the newest end of the buffer, and an idle Executor stays idle. -/
structure Device.Feeds (d d' : Device) : Prop where
  view : d'.headView = d.headView
  buffer : d.link.buffer <+: d'.link.buffer
  idle : d.exec = none → d'.exec = none

namespace Device.Feeds

variable {d d' e : Device}

theorem refl (d : Device) : d.Feeds d := ⟨rfl, List.prefix_rfl, id⟩

theorem trans (h : d.Feeds d') (h' : d'.Feeds e) : d.Feeds e :=
  ⟨h'.view.trans h.view, h.buffer.trans h'.buffer, h'.idle ∘ h.idle⟩

theorem halted (h : d.Feeds d') : d'.link.halted = d.link.halted := congrArg (·.1) h.view

theorem faultRecord (h : d.Feeds d') : d'.link.faultRecord = d.link.faultRecord := congrArg (·.2.1) h.view

theorem issued (h : d.Feeds d') : d'.link.issued = d.link.issued := congrArg (·.2.2.1) h.view

theorem event (h : d.Feeds d') : d'.regs.event = d.regs.event := congrArg (·.2.2.2.1) h.view

theorem sweep (h : d.Feeds d') : d'.intake.sweep = d.intake.sweep := congrArg (·.2.2.2.2) h.view

/-- A buffer that holds a write still holds one. -/
theorem buffer_ne_nil (h : d.Feeds d') (hb : d.link.buffer ≠ []) : d'.link.buffer ≠ [] :=
  fun hnil => hb (List.prefix_nil.1 (hnil ▸ h.buffer))

theorem placeIn (c : Capture) (r : Record) (d : Device) : d.Feeds (placeIn c r d) := by
  unfold Machine.placeIn settleCapture
  split <;> exact ⟨rfl, List.prefix_append _ _, id⟩

theorem drainGo (q : List Record) : ∀ (b : PerChannel Bool) (d : Device), d.Feeds (drainGo q b d).2 := by
  induction q with
  | nil => exact fun _ d => refl d
  | cons r rest ih =>
    intro b d
    unfold Machine.drainGo
    split
    · exact ih _ _
    · split
      · exact ih _ _
      · split
        · exact (placeIn _ r d).trans (ih _ _)
        · exact refl d

theorem drainWalk (d : Device) : d.Feeds (drainWalk d) := by
  unfold Machine.drainWalk
  split
  · exact refl d
  · obtain ⟨hv, hb, hi⟩ := drainGo d.delivery.holding { a := false, b := false } d
    exact ⟨hv, hb, hi⟩

theorem completePost (st : Status) (dt : Detail) (fs : List Byte) (d : Device) : d.Feeds (completePost st dt fs d) := by
  unfold Machine.completePost
  split
  · exact refl d
  · exact ⟨rfl, List.prefix_rfl, fun _ => rfl⟩

theorem requestExec (d : Device) : d.Feeds (requestExec d) := by
  obtain ⟨m, hm⟩ := arbitrate_frame { d with map := { d.map with execWaiting := true } }
  rw [Machine.requestExec, hm]
  exact ⟨rfl, List.prefix_rfl, id⟩

theorem bulkGrant (h : bulkGrant d = some d') : d.Feeds d' := by
  unfold Machine.bulkGrant at h
  split at h
  · split at h
    · cases h
      have hgroup : ∀ w w', d.Feeds (Machine.enterBuffer w (setWork (.mapRead w') d)) := fun _ _ =>
        ⟨rfl, List.prefix_append _ _, fun he => by simp [Machine.enterBuffer, setWork, he]⟩
      unfold bulkMapRead
      simp only
      split
      · exact (hgroup _ _).trans (completePost _ _ _ _)
      · exact (hgroup _ _).trans (requestExec _)
    · cases h
  · cases h
    unfold bulkCounters
    refine Device.Feeds.trans ?_ (completePost _ _ _ _)
    split <;> exact ⟨rfl, List.prefix_append _ _, id⟩
  · cases h

theorem enterSlotWrite (w : HostWrite) (rest : List HostWrite) (d : Device) : d.Feeds (enterSlotWrite w rest d) := by
  rw [enterSlotWrite_eq]; exact ⟨rfl, List.prefix_append _ _, id⟩

theorem stageOut (t : TraceJob) (f : TraceFrame) (rest : List TraceFrame) (d : Device) :
    d.Feeds (stageOut t f rest d) := by
  unfold Machine.stageOut
  simp only
  split <;> exact ⟨rfl, List.prefix_append _ _, id⟩

theorem grantOne (h : grantOne d = some d') : d.Feeds d' := by
  unfold Machine.grantOne grantBelowDrain at h
  split at h
  · split at h
    · cases h; exact enterSlotWrite _ _ d
    · split at h
      · split at h
        · cases h; exact stageOut _ _ _ d
        · exact bulkGrant h
      · exact bulkGrant h
  · cases h

theorem offerDrain (d : Device) : d.Feeds (offerDrain d) := by
  unfold Machine.offerDrain
  split
  · exact drainWalk d
  · exact refl d

theorem grantEntries (n : Nat) : ∀ d : Device, d.Feeds (grantEntries n d) := by
  induction n with
  | zero => exact refl
  | succ n ih =>
    intro d
    unfold Machine.grantEntries
    split
    · next hg => exact ((offerDrain d).trans (grantOne hg)).trans (ih _)
    · exact offerDrain d

theorem grants (d : Device) : d.Feeds (grants d) := grantEntries 4 d

end Device.Feeds

/-! ### The head that can be issued (R161, R166) -/

/-- The head of a buffer that holds a write is issued, and nothing else happens. -/
theorem issueHead_canIssue {d : Device} (hc : d.link.canIssue = true) :
    ∃ i, issueHead d = { d with link := { d.link with issued := i } } ∧ (d.link.buffer ≠ [] → i = true) := by
  by_cases hb : d.link.buffer = []
  · exact ⟨d.link.issued, issueHead_empty hb, fun h => absurd hb h⟩
  · exact ⟨true, issueHead_issues hc hb, fun _ => rfl⟩

/-! ### The head that cannot be issued (R166, R167, R169) -/

section
variable {d : Device}

/-- An idle Executor has no post to end (R169). -/
theorem faultExec_idle (he : d.exec = none) : faultExec d = d := by rw [faultExec, he]

/-- An entry into HALTED with the Executor idle keeps the Fault Record and EVENT. -/
theorem enterHalted_idle (he : d.exec = none) : (enterHalted d).link.halted = true
    ∧ (enterHalted d).link.faultRecord = d.link.faultRecord ∧ (enterHalted d).regs.event = d.regs.event := by
  let x := faultSweep { d with link := { d.link with halted := true, inFlight := none, waiting := [] } }
  have hexec : faultExec x = x := faultExec_idle he
  have htrace : ∀ y : Device, (faultTrace y).headView = y.headView := fun y => by unfold faultTrace; split <;> rfl
  have hview : (enterHalted d).headView = x.headView :=
    (Device.Feeds.grants _).view.trans ((htrace _).trans (congrArg (fun y => (pauseTimers y).headView) hexec))
  exact ⟨congrArg (·.1) hview, congrArg (·.2.1) hview, congrArg (·.2.2.2.1) hview⟩

/-- A fault with the Executor idle: HALTED, EVENT.FAULT, and the Fault Record where it was empty. -/
theorem raiseFault_idle (he : d.exec = none) (cls : FaultClass) (site : Site) (slot : Option (Fin 32)) :
    (raiseFault cls site slot d).link.halted = true ∧ (raiseFault cls site slot d).regs.event = d.regs.event ||| 2
    ∧ (raiseFault cls site slot d).link.faultRecord
      = some (d.link.faultRecord.getD { cls := cls, site := site, slot := slot, clock := d.clock }) := by
  have hrecord : recordFault cls site slot d = { d with link := { d.link with
      faultRecord := some (d.link.faultRecord.getD { cls := cls, site := site, slot := slot, clock := d.clock }) } } := by
    unfold recordFault
    split
    · next hf => rw [hf, Option.getD_some, ← hf]
    · next hf => rw [hf]; rfl
  obtain ⟨sent, msg, hcause⟩ := setCause_frame .fault (recordFault cls site slot d)
  rw [hrecord] at hcause
  rw [raiseFault, hrecord, hcause]
  obtain ⟨hh, hr, hev⟩ := enterHalted_idle (d := { d with
    link := { d.link with
      faultRecord := some (d.link.faultRecord.getD { cls := cls, site := site, slot := slot, clock := d.clock })
      sent := sent }
    regs := { d.regs with event := d.regs.event ||| 2, msgPending := msg } }) he
  exact ⟨hh, hev, hr⟩

/-- A head that cannot be issued faults at the drain site; with the link ACTIVE the class is MASTER_OFF. -/
theorem issueHead_faults (he : d.exec = none) (hb : d.link.buffer ≠ []) (hi : d.link.issued = false)
    (hh : d.link.halted = false) (hc : d.link.canIssue = false) :
    ∃ cls, (d.link.inputs.up = true → cls = .masterOff) ∧ (issueHead d).link.halted = true
      ∧ (issueHead d).regs.event = d.regs.event ||| 2 ∧ (issueHead d).link.faultRecord
        = some (d.link.faultRecord.getD { cls := cls, site := .drain, slot := none, clock := d.clock }) := by
  have hissue : issueHead d = raiseBlocked .drain none d := by
    rw [issueHead, if_neg (by simp [hb, hi]), if_neg (by simp [hc]), if_neg (by simp [hh])]
  rw [hissue, raiseBlocked]
  refine ⟨(blockedClass d).1, fun hup => by rw [blockedClass, if_pos hup], ?_⟩
  unfold blockedClass
  split
  · exact raiseFault_idle he _ _ _
  · split
    · exact raiseFault_idle he _ _ _
    · exact raiseFault_idle (d := { d with link := { d.link with choices := d.link.choices + 1 } }) he _ _ _

end

/-! ### A drain that leaves a capture open (R106) -/

/-- A drain whose records no open capture takes leaves them held. -/
theorem drainGo_untaken {d : Device} {q : List Record} (h : ∀ x ∈ q, firstTaking d.delivery.captures x.ch = none) :
    ∀ b, drainGo q b d = (q, d) := by
  induction q with
  | nil => exact fun _ => rfl
  | cons r rest ih =>
    intro b
    obtain ⟨hr, hrest⟩ := List.forall_mem_cons.1 h
    unfold drainGo
    split
    · rw [ih hrest]
    · rw [hr]
      simp only [ih hrest]

theorem drainWalk_untaken {d : Device} (h : ∀ x ∈ d.delivery.holding, firstTaking d.delivery.captures x.ch = none) :
    drainWalk d = d := by
  unfold drainWalk
  split
  · rfl
  · rw [drainGo_untaken h]; rfl

/-- With nothing that a drain or the classes below it would take, the head write is issued. -/
theorem settleLink_untaken {d : Device} (h : ∀ x ∈ d.delivery.holding, firstTaking d.delivery.captures x.ch = none)
    (hq : d.link.slotQueue = []) (ht : d.trace = none) (he : d.exec = none) (hc : d.link.canIssue = true)
    (hb : d.link.buffer ≠ []) : settleLink d = d.wrote d.link.buffer := by
  have hoffer : offerDrain d = d := by unfold offerDrain; split <;> simp [drainWalk_untaken h]
  have hone : grantOne d = none := by
    unfold grantOne
    split
    · exact grantBelowDrain_none hq (fun t h => nomatch ht.symm.trans h) (by simp [bulkGrant, he])
    · rfl
  rw [settleLink, grants, grantEntries, hoffer, hone]
  exact issueHead_issues hc hb

/-! ### RESUME (R171) -/

section
variable {d : Device}

/-- The part as RESUME leaves HALTED, before the drain. -/
def Device.resumed (d : Device) : Device := { d.tested with link := { d.link with halted := false } }

/-- With the link taking accesses the drain and the grants feed the buffer, and its head is issued. -/
theorem settleLink_drained (hc : d.link.canIssue = true) : ∃ x i, d.Feeds x ∧ x.kept = d.kept
    ∧ settleLink (drainWalk d) = { x with link := { x.link with issued := i } } ∧ (x.link.buffer ≠ [] → i = true) := by
  have hkept : (grants (drainWalk d)).kept = d.kept := by simp
  have hinputs : (grants (drainWalk d)).link.inputs = d.link.inputs := congrArg Kept.inputs hkept
  obtain ⟨i, hissue, hi⟩ := issueHead_canIssue (d := grants (drainWalk d))
    (by rw [LinkPort.canIssue, hinputs]; exact hc)
  exact ⟨_, i, (Device.Feeds.drainWalk d).trans (Device.Feeds.grants _), hkept, hissue, hi⟩

/-- A capture that takes the oldest record held and none of the others, and that goes on, receives it (R99, R106). -/
theorem drainWalk_first {r : Record} {more : List Record} {c : Capture} (hh : d.link.halted = false)
    (hf : d.link.free = true) (hq : d.delivery.holding = r :: more) (hcaps : d.delivery.captures = [c])
    (hch : c.mask.get r.ch = true) (hmore : ∀ x ∈ more, firstTaking [c.receive r] x.ch = none)
    (hgoes : (c.receive r).endReason r = none) :
    drainWalk d = setHolding more (d.filled c r [c.receive r]) := by
  have hplace := placeIn_goesOn hcaps hgoes
  have htakes : firstTaking d.delivery.captures r.ch = some c := by simp [hcaps, firstTaking, Capture.takes, hch]
  rw [← hplace]
  refine drainWalk_places hh hf hq htakes ?_
  rw [hplace]
  exact drainGo_untaken hmore

/-- With no record held and the Executor idle, a head that cannot be issued faults behind the grants. -/
theorem settleLink_faults (he : d.exec = none) (hb : d.link.buffer ≠ []) (hi : d.link.issued = false)
    (hh : d.link.halted = false) (hc : d.link.canIssue = false) :
    ∃ cls, (d.link.inputs.up = true → cls = .masterOff) ∧ (settleLink d).link.halted = true
      ∧ (settleLink d).regs.event = d.regs.event ||| 2 ∧ (settleLink d).link.faultRecord
        = some (d.link.faultRecord.getD { cls := cls, site := .drain, slot := none, clock := d.clock }) := by
  have hfeeds := Device.Feeds.grants d
  have hinputs : (grants d).link.inputs = d.link.inputs := congrArg Kept.inputs (kept_grants d)
  have hclock : (grants d).clock = d.clock := congrArg Kept.clock (kept_grants d)
  have hfault := issueHead_faults (hfeeds.idle he) (hfeeds.buffer_ne_nil hb) (hfeeds.issued.trans hi)
    (hfeeds.halted.trans hh) (by rw [LinkPort.canIssue, hinputs]; exact hc)
  rw [hinputs, hfeeds.event, hfeeds.faultRecord, hclock] at hfault
  exact hfault

end

/-- Settles O11. -/
theorem resumeLeavesHalted : Obligations.ResumeLeavesHalted := by
  intro s w hwf hsame
  have h3 : w.getLsbD 3 = true := by simp only [Instr.wf, Bool.and_eq_true] at hwf; exact hwf.1
  have resumes : ∀ {d : Device}, resumeAct s.dev.tested = d →
      Sys2Proof.Machine.exec (.resume w) s = .next { s with dev := d } := by
    rintro d rfl
    rw [exec_resume hwf, onDevice, controlWrite_resume hsame h3]
  have leaves : ∀ {d : Device}, s.dev.link.halted = true → settleLink (drainWalk s.dev.resumed) = d →
      Sys2Proof.Machine.exec (.resume w) s = .next { s with dev := d } :=
    fun hh hd => resumes ((if_pos hh).trans hd)
  have canIssue : s.dev.link.inputs.up = true → s.dev.link.inputs.mastering = true → s.dev.link.canIssue = true :=
    fun hup hmast => by simp [LinkPort.canIssue, hup, hmast]
  refine ⟨fun hh => resumes (if_neg (by simp [Device.tested, hh])), fun hh hup hmast => ?issues,
    fun r more c hh hquiet hup hmast hbuffer hissued hqueue hq hcaps hch hmore hroom hlift hprox hmsg => ?drains,
    fun hh hno hquiet hq hbuffer hissued => ?faults⟩
  case issues =>
    obtain ⟨x, i, hfeeds, hkept, hsettle, hi⟩ := settleLink_drained (d := s.dev.resumed) (canIssue hup hmast)
    exact ⟨_, leaves hh hsettle, rfl, hfeeds.halted, hfeeds.faultRecord, hfeeds.event,
      fun hb => hi (hfeeds.buffer_ne_nil hb), hfeeds.buffer, hfeeds.sweep, congrArg Kept.scan hkept,
      congrArg Kept.chans hkept⟩
  case drains =>
    intro record c'
    obtain ⟨-, -, -, -, hidle, htrace⟩ := hquiet hh
    have htested : s.dev.tested = s.dev := by rw [Device.tested, hmsg, Bool.false_and, ← hmsg]
    have hgoes : c'.endReason r = none := by
      refine Capture.endReason_none (fun h => hprox h.1 h.2) (fun h => ?_) (Nat.ne_of_lt hroom)
      exact Bool.false_ne_true ((hlift h.1).symm.trans h.2)
    have huntaken : ∀ x ∈ more, firstTaking [c'] x.ch = none := fun x hx => by
      simp [firstTaking, Capture.takes, c', hmore x hx]
    let x := setHolding more (s.dev.resumed.filled c r [c'])
    have hwalk : drainWalk s.dev.resumed = x :=
      drainWalk_first rfl (by simp [Device.resumed, LinkPort.free, hbuffer]) hq hcaps hch huntaken hgoes
    have hsettle : settleLink x = x.wrote x.link.buffer :=
      settleLink_untaken huntaken hqueue htrace hidle (canIssue hup hmast)
        (List.append_ne_nil_of_right_ne_nil _ (List.cons_ne_nil _ _))
    refine ⟨_, leaves hh ((congrArg settleLink hwalk).trans hsettle), ?_, PerChannel.get_set_same _ _ _⟩
    simp only [x, Device.filled, Device.resumed, htested, setHolding, Device.wrote, hbuffer, List.nil_append]
    rfl
  case faults =>
    obtain ⟨-, -, -, -, hidle, -⟩ := hquiet hh
    have hwalk : drainWalk s.dev.resumed = s.dev.resumed := drainWalk_nil hq
    have hblocked : s.dev.link.canIssue = false := by simpa [LinkPort.canIssue] using hno
    obtain ⟨cls, hcls, hhalted, hevent, hrecord⟩ :=
      settleLink_faults (d := s.dev.resumed) hidle hbuffer hissued rfl hblocked
    refine ⟨_, leaves hh (congrArg settleLink hwalk), rfl, hhalted, hevent, ⟨_, hrecord⟩,
      fun e he => hrecord.trans ?kept, fun hnone hup => hrecord.trans ?entered⟩
    case kept => rw [show s.dev.resumed.link.faultRecord = some e from he]; rfl
    case entered => rw [show s.dev.resumed.link.faultRecord = none from hnone, hcls hup]; rfl

end Sys2Proof.Machine
end

section
/-!
PROOFS. IDLE_TIMEOUT (R118 to R121): the capture whose timer has run out completes.
-/
namespace Sys2Proof.Machine

open Sys2Proof

/-! ### A capture's completion (R120, R121, R195) -/

theorem Capture.fields_placed {c : Capture} {l : LastRecord} (h : c.last = some l) (reason : Reason) :
    c.fields reason = [BitVec.ofNat 8 reason.code, BitVec.ofNat 8 (channelCode l.ch)] ++ le 2 c.count ++ le 2 c.capacity
      ++ (le 2 l.seq.toNat ++ le 4 l.timeTag.toNat) := by
  simp [Capture.fields, h, le]

theorem Capture.fields_empty {c : Capture} (h : c.last = none) (reason : Reason) :
    c.fields reason = [BitVec.ofNat 8 reason.code, 255] ++ le 2 c.count ++ le 2 c.capacity ++ (le 2 0 ++ le 4 0) := by
  simp [Capture.fields, h, le]

theorem channelCode_byte (ch : Channel) : BitVec.ofNat 8 (channelCode ch) = if ch = .a then 0 else 1 := by
  cases ch <;> rfl

/-- A part once a capture has left its queue and been counted, its writes not yet handed over (R120). -/
def Device.dropped (d : Device) (slot : Fin 32) (reason : Reason) : Device :=
  { d with
    delivery := { d.delivery with captures := d.delivery.captures.filter fun x => x.slot != slot }
    counters := d.counters.bumpReason reason }

/-- A capture's completion is its leaving, and its slot's. -/
theorem completeCapture_eq (c : Capture) (reason : Reason) (d : Device) : completeCapture c reason d
    = completeSlot c.slot reason.status .none (c.fields reason) (d.dropped c.slot reason) := rfl

theorem Device.Calm.dropped_noProducer {d : Device} (h : d.Calm) (slot : Fin 32) (reason : Reason) :
    (d.dropped slot reason).NoProducer :=
  ⟨.inl h.holding, h.slotQueue, h.staging, bulkGrant_none_of_exec (by rfl) h.bulk⟩

/-! ### The idle timer (R118) -/

theorem Capture.expired_iff (c : Capture) : c.expired = true ↔ c.timeout ≠ 0 ∧ 1000 * c.timeout ≤ c.elapsed := by
  simp [Capture.expired, Nat.mul_comm]

section
variable {d : Device} {slot : Fin 32} {c : Capture}

theorem idleExpiry_none (h : d.delivery.captures.find? (fun c => c.slot == slot) = none) : idleExpiry slot d = d := by
  simp only [idleExpiry, h]

/-- A timer that has not run out, or that is paused, does not expire. -/
theorem idleExpiry_runs (h : d.delivery.captures.find? (fun c => c.slot == slot) = some c)
    (hs : c.expired = false ∨ d.link.halted = true) : idleExpiry slot d = d := by
  have hno : (c.expired && !d.link.halted) = false := by rcases hs with hs | hs <;> simp [hs]
  simp only [idleExpiry, h, hno, Bool.false_eq_true, if_false]

/-- In a calm part a timer that has run out completes its capture. -/
theorem idleExpiry_completes (h : d.delivery.captures.find? (fun c => c.slot == slot) = some c)
    (he : c.expired = true) (hcalm : d.Calm) : idleExpiry slot d = (clearMark slot (d.dropped slot .timeout)).wrote
      [resultWrite (d.markOf slot) .ok .none (c.fields .timeout), doneWrite (d.markOf slot)] := by
  obtain rfl : c.slot = slot := by simpa using List.find?_some h
  have hbuffer : (d.dropped c.slot .timeout).link.buffer = [] := hcalm.buffer
  have hdone := settleLink_completeSlot (hcalm.dropped_noProducer c.slot .timeout) hcalm.canIssue (by simp [hbuffer])
    c.slot .ok .none (c.fields .timeout)
  rw [hbuffer] at hdone
  simp only [idleExpiry, h, he, hcalm.live, Bool.not_false, Bool.and_self, if_true]
  exact hdone

end

/-- Settles O32. -/
theorem idleTimeoutCompletesCapture : Obligations.IdleTimeoutCompletesCapture := by
  intro s slot
  have answers : ∀ {d : Device}, idleExpiry slot s.dev = d →
      Sys2Proof.Machine.exec (.idleTimeout slot) s = .next { s with dev := d } := by
    rintro d rfl; rfl
  refine ⟨fun hnone => answers (idleExpiry_none hnone), fun c hc => ⟨fun hs => answers (idleExpiry_runs hc ?runs), ?_⟩⟩
  case runs =>
    rcases hs with hs | hs | hs
    · exact .inl (Bool.eq_false_iff.2 fun h => (c.expired_iff.1 h).1 hs)
    · exact .inl (Bool.eq_false_iff.2 fun h => absurd (c.expired_iff.1 h).2 (Nat.not_le.2 hs))
    · exact .inr hs
  intro ht he hcalm m last ch fields done
  have hfields : c.fields .timeout = fields := by
    cases hl : c.last with
    | some l => simp only [c.fields_placed hl, channelCode_byte, fields, ch, last, hl]; rfl
    | none => simp only [c.fields_empty hl, fields, ch, last, hl]; rfl
  rw [answers (idleExpiry_completes hc (c.expired_iff.2 ⟨ht, he⟩) hcalm), hfields]
  rfl

end Sys2Proof.Machine
end

section
/-!
PROOFS. A post row that no sweep waits for, and a slot that is passed over once its body has been read (R127, R133 to R135,
R138, R140).
-/
namespace Sys2Proof.Machine

open Sys2Proof

/-- A post row is one post found at its slot. -/
theorem exec_postRow {i : Instr} {slot : Fin 32} {kind : Byte} (h : postRow i = some (slot, kind)) :
    ∃ notify p, postKind p = kind ∧ ∀ s, Sys2Proof.Machine.exec i s = .next (onDevice (postFound slot notify p) s) := by
  cases i
  case capture | trace | scanSetup | profileLoad | profileRemove | profileClear | profileDefault | mapLoad | mapRead
      | counters | cancelMask | cancelTrace | cancelSlot | clockSet =>
    obtain ⟨rfl, rfl⟩ := Prod.mk.inj (Option.some.inj h)
    exact ⟨_, _, rfl, fun _ => rfl⟩
  all_goals cases h

/-- A post that is neither a CAPTURE nor a TRACE is the Executor's (R133). -/
theorem executorKind_postKind {p : Post} (hc : postKind p ≠ 1) (ht : postKind p ≠ 6) :
    executorKind (postKind p) = true := by
  cases p with
  | capture => exact absurd rfl hc
  | trace => exact absurd rfl ht
  | _ => rfl

section
variable {d : Device} {sw : Sweep} {slot next : Fin 32} {p : Post}

/-- A slot in flight, a CAPTURE with the Capture Queue full and a post for a busy Executor are passed over (R133, R138). -/
theorem settleBody_skips {m : SlotMark} (h : d.isInFlight m.slot = true
    ∨ (postKind p = 1 ∧ 16 ≤ d.delivery.captures.length) ∨ (postKind p ≠ 1 ∧ postKind p ≠ 6 ∧ d.exec ≠ none)) :
    settleBody m (some p) d = none := by
  have passed : d.noRoom (postKind p) = true → settlePost m p d = none := fun hno => if_pos hno
  unfold settleBody
  split
  · rfl
  · next hclear =>
    rcases h with h | ⟨hk, hfull⟩ | ⟨hc, ht, hbusy⟩
    · exact absurd h hclear
    · exact passed (by simp [Device.noRoom, hk, hfull])
    · exact passed (by simp [Device.noRoom, executorKind_postKind hc ht, Option.isSome_iff_ne_none, hbusy])

/-- A POSTED CAPTURE that is not in flight has its body read, with room in the Capture Queue (R133). -/
theorem visit_capture (hs : stripState (sw.snapshot.getD slot.val 0) = 1) (hk : stripKind (sw.snapshot.getD slot.val 0) = 1)
    (hheld : slot ∉ sw.held) (hclear : d.isInFlight slot = false) (hroom : d.delivery.captures.length < 16) :
    visit sw slot d = .readBody := by
  have hnoRoom : d.noRoom 1 = false := by simp [Device.noRoom, executorKind, hroom]
  simp only [visit, hs, hk]
  simpa [hheld, hclear] using hnoRoom

/-- A part that waits for no slot's body settles to itself once its sweep is past its last slot. -/
theorem afterRead_sweepGoesOn_past (h : d.Calm) (hs : d.intake.sweep = some sw) (hp : d.intake.promptPending = false) :
    afterRead (sweepGoesOn [] (endRead d) none) = d.swept := by
  have hsettled : (setSweep none (endRead d)).Settled := ⟨h.noProducer.keep rfl rfl rfl rfl, .inl h.buffer⟩
  rw [sweepGoesOn, walk, sweepDone_unprompted (x := endRead d) (by simp [hs]) hp, afterRead,
    pumpReads_none (by exact h.waiting), settleLink_settled hsettled]
  rfl

/-- A walk that comes to a slot whose body is to be read asks for it, and in a calm part the read is issued (R134). -/
theorem afterRead_sweepGoesOn_next (h : d.Calm) (hs : d.intake.sweep = some sw) (he : sw.ending = false)
    (hv : visit sw next (endRead d) = .readBody) (more : List (Fin 32)) :
    afterRead (sweepGoesOn (next :: more) (endRead d) none) = { d with
      intake := { d.intake with sweep := some { sw with phase := .body next more } }
      link := { d.link with inFlight := some { req := bodyRead sw.base next, elapsed := 0 } } } := by
  let x : Device := { d with
    intake := { d.intake with sweep := some { sw with phase := .body next more } }
    link := { d.link with inFlight := some { req := bodyRead sw.base next, elapsed := 0 } } }
  have hwalk : walk (next :: more) (endRead d)
      = requestRead (bodyRead sw.base next) (setSweep (some { sw with phase := .body next more }) (endRead d)) := by
    have hsweep : (endRead d).intake.sweep = some sw := hs
    simp only [walk, hsweep, he, hv, Bool.false_eq_true, if_false]
  have hsettled : x.Settled := ⟨h.noProducer.keep rfl rfl rfl rfl, .inl h.buffer⟩
  rw [sweepGoesOn, hwalk, requestRead_issues _ (by exact h.live) (by exact h.waiting) rfl (by exact h.canIssue)]
  exact settleLink_settled hsettled

end

/-- Settles O44. -/
theorem postNotHandledChangesNothing : Obligations.PostNotHandledChangesNothing := by
  intro s i slot kind hrow
  obtain ⟨notify, p, rfl, hexec⟩ := exec_postRow hrow
  have answers : ∀ {d : Device}, postFound slot notify p s.dev = d →
      Sys2Proof.Machine.exec i s = .next { s with dev := d } := by
    rintro d rfl; exact hexec s
  have unread : ¬(∃ sw rest f, s.dev.intake.sweep = some sw ∧ sw.phase = .body slot rest
      ∧ stripKind (sw.snapshot.getD slot.val 0) = postKind p ∧ s.dev.link.inFlight = some f ∧ f.req.site = .body) →
      Sys2Proof.Machine.exec i s = .next s := fun h =>
    answers (postFound_unawaited notify (Bool.eq_false_iff.2 fun hw => h ((awaitsBody_iff _ _ _).1 hw)))
  refine ⟨fun h => unread ?phase, fun h => unread ?site, fun sw hsw h => unread ?kind, fun hh hquiet => unread ?halted,
    fun sw rest f hsw hphase hkind hf hsite hcalm hprompt hending hskips => ?skips⟩
  case phase => rintro ⟨sw, rest, -, hs, hp, -⟩; exact h sw rest hs hp
  case site => rintro ⟨-, -, f, -, -, -, hf, hb⟩; exact h f hf hb
  case kind => rintro ⟨sw', -, -, hs, -, hk, -⟩; exact h (Option.some.inj (hsw.symm.trans hs) ▸ hk)
  case halted =>
    obtain ⟨-, -, hno, -⟩ := hquiet hh
    rintro ⟨sw, -, -, hs, -⟩
    exact nomatch hs.symm.trans hno
  case skips =>
    have hfound : postFound slot notify p s.dev = afterRead (sweepGoesOn rest (endRead s.dev) none) := by
      rw [postFound_awaited notify ((awaitsBody_iff _ _ _).2 ⟨sw, rest, f, hsw, hphase, hkind, hf, hsite⟩) hsw hphase,
        settleBody_skips (by exact hskips)]
    refine ⟨?last, ?goesOn⟩
    case last =>
      rintro rfl
      exact answers (hfound.trans (afterRead_sweepGoesOn_past hcalm hsw hprompt))
    case goesOn =>
      rintro next more rfl hstate hnext hheld hclear hroom
      exact answers (hfound.trans (afterRead_sweepGoesOn_next hcalm hsw hending
        (visit_capture hstate hnext hheld (by exact hclear) (by exact hroom)) more))

end Sys2Proof.Machine
end

section
/-!
PROOFS. The Link Port's settling where slot writes alone wait for the buffer, however many there are (R161 to R163).
-/
namespace Sys2Proof.Machine

open Sys2Proof

/-- No record drains, no trace frame is staged and no bulk write waits: slot writes alone can enter the buffer (R163). -/
structure Device.SlotsOnly (d : Device) : Prop where
  drain : d.link.halted = true ∨ d.delivery.holding = [] ∨ d.delivery.captures = []
  staging : ∀ t, d.trace = some t → t.staging = []
  bulk : bulkGrant d = none

theorem Device.NoProducer.slotsOnly {d : Device} (h : d.NoProducer) : d.SlotsOnly := ⟨.inr h.drain, h.staging, h.bulk⟩

/-- What concerns neither HALTED, records held, captures, trace nor Executor lets slot writes alone in as before. -/
theorem Device.SlotsOnly.keep {d d' : Device} (h : d.SlotsOnly) (hh : d'.link.halted = d.link.halted)
    (hd : d'.delivery = d.delivery) (ht : d'.trace = d.trace) (he : d'.exec = d.exec) : d'.SlotsOnly :=
  ⟨hh ▸ hd ▸ h.drain, ht ▸ h.staging, bulkGrant_none_of_exec he h.bulk⟩

/-- Oldest first, writes have moved from the slot write queue to the newest end of the buffer while it had room; slots' marks
may have been cleared, and the head may be being issued. -/
def Device.Shifts (d d' : Device) : Prop :=
  ∃ moved rest marks issued, d.link.slotQueue = moved ++ rest
    ∧ (moved = [] ∨ d.link.buffer.length + moved.length ≤ 4) ∧ d' = { d with
      link := { d.link with buffer := d.link.buffer ++ moved, slotQueue := rest, issued := issued }
      intake := { d.intake with inFlight := marks } }

namespace Device.Shifts

variable {d d' e : Device}

theorem refl (d : Device) : d.Shifts d := ⟨[], d.link.slotQueue, d.intake.inFlight, d.link.issued, rfl, .inl rfl, by simp⟩

theorem trans (h : d.Shifts d') (h' : d'.Shifts e) : d.Shifts e := by
  obtain ⟨moved, rest, marks, issued, hq, hroom, rfl⟩ := h
  obtain ⟨moved', rest', marks', issued', hq', hroom', rfl⟩ := h'
  refine ⟨moved ++ moved', rest', marks', issued', ?_, ?_, by simp⟩
  · rw [hq, List.append_assoc]; exact congrArg _ hq'
  · simp only [List.length_append] at hroom' ⊢
    rcases hroom' with rfl | hroom'
    · simpa using hroom
    · exact .inr (by omega)

/-- The writes are the same, in the same order. -/
theorem writes (h : d.Shifts d') : d'.link.buffer ++ d'.link.slotQueue = d.link.buffer ++ d.link.slotQueue := by
  obtain ⟨moved, rest, -, -, hq, -, rfl⟩ := h
  simp [hq]

theorem buffer (h : d.Shifts d') : d.link.buffer <+: d'.link.buffer := by
  obtain ⟨moved, -, -, -, -, -, rfl⟩ := h
  exact List.prefix_append _ _

/-- The buffer holds no more than 4 writes (R161). -/
theorem bounded (h : d.Shifts d') (hb : d.link.buffer.length ≤ 4) : d'.link.buffer.length ≤ 4 := by
  obtain ⟨moved, -, -, -, -, hroom, rfl⟩ := h
  rcases hroom with rfl | hroom
  · simpa using hb
  · simpa using hroom

theorem slotsOnly (h : d.Shifts d') (hd : d.SlotsOnly) : d'.SlotsOnly := by
  obtain ⟨-, -, -, -, -, -, rfl⟩ := h
  exact hd.keep rfl rfl rfl rfl

end Device.Shifts

theorem enterSlotWrite_shifts {d : Device} {w : HostWrite} {rest : List HostWrite} (hq : d.link.slotQueue = w :: rest)
    (hroom : d.link.buffer.length < 4) : d.Shifts (enterSlotWrite w rest d) := by
  rw [enterSlotWrite_eq]
  exact ⟨[w], rest, _, d.link.issued, hq, .inr hroom, rfl⟩

theorem offerDrain_slotsOnly {d : Device} (h : d.SlotsOnly) : offerDrain d = d := by
  rcases h.drain with hh | hd
  · simp [offerDrain, drainWalk, hh]
  · exact offerDrain_idle hd

theorem grantOne_shifts {d d' : Device} (h : d.SlotsOnly) (hg : grantOne d = some d') : d.Shifts d' := by
  unfold grantOne at hg
  split at hg
  · next hfree =>
    cases hq : d.link.slotQueue with
    | nil => exact nomatch hg.symm.trans (grantBelowDrain_none hq h.staging h.bulk)
    | cons w rest =>
      obtain rfl : enterSlotWrite w rest d = d' := by simpa [grantBelowDrain, hq] using hg
      exact enterSlotWrite_shifts hq (by simpa [LinkPort.free] using hfree)
  · cases hg

theorem grantEntries_shifts (n : Nat) : ∀ {d : Device}, d.SlotsOnly → d.Shifts (grantEntries n d) := by
  induction n with
  | zero => exact fun _ => .refl _
  | succ n ih =>
    intro d h
    rw [grantEntries, offerDrain_slotsOnly h]
    split
    · next hg =>
      have hone := grantOne_shifts h hg
      exact hone.trans (ih (hone.slotsOnly h))
    · exact .refl d

/-- Slot writes are left waiting by a full buffer alone (R163). -/
theorem grantEntries_exhausts (n : Nat) : ∀ {d : Device}, d.SlotsOnly → 4 ≤ d.link.buffer.length + n →
    (grantEntries n d).link.slotQueue = [] ∨ 4 ≤ (grantEntries n d).link.buffer.length := by
  induction n with
  | zero => exact fun _ hn => .inr hn
  | succ n ih =>
    intro d h hn
    rw [grantEntries, offerDrain_slotsOnly h]
    cases hq : d.link.slotQueue with
    | nil =>
      have hone : grantOne d = none := by simp [grantOne, grantBelowDrain_none hq h.staging h.bulk]
      rw [hone]; exact .inl hq
    | cons w rest =>
      by_cases hroom : d.link.buffer.length < 4
      · have hone : grantOne d = some (enterSlotWrite w rest d) := by
          simp [grantOne, grantBelowDrain, LinkPort.free, hroom, hq]
        rw [hone]
        refine ih ((enterSlotWrite_shifts hq hroom).slotsOnly h) ?_
        rw [enterSlotWrite_eq, List.length_append, List.length_singleton]
        omega
      · have hone : grantOne d = none := by simp [grantOne, LinkPort.free, hroom]
        rw [hone]; exact .inr (Nat.not_lt.1 hroom)

section
variable {d : Device} (h : d.SlotsOnly) (hl : d.link.halted = true ∨ d.link.canIssue = true)
include h hl

/-- While HALTED, or with the link taking writes, no head faults: the settling ends with the head issued or waiting. -/
theorem settleLink_noFault : ∃ issued, settleLink d = { grants d with link := { (grants d).link with issued := issued } } := by
  have hl' : (grants d).link.halted = true ∨ (grants d).link.canIssue = true := by
    obtain ⟨_, _, _, _, _, _, hg⟩ : d.Shifts (grants d) := grantEntries_shifts 4 h
    rw [hg]; exact hl
  unfold settleLink issueHead
  split
  · exact ⟨_, rfl⟩
  · split
    · exact ⟨true, rfl⟩
    · next hno => rw [if_pos (hl'.resolve_right hno)]; exact ⟨_, rfl⟩

/-- Such a settling moves slot writes. -/
theorem settleLink_shifts : d.Shifts (settleLink d) := by
  obtain ⟨issued, hs⟩ := settleLink_noFault h hl
  have hgrants : d.Shifts (grants d) := grantEntries_shifts 4 h
  refine hgrants.trans ?_
  rw [hs]
  exact ⟨[], _, (grants d).intake.inFlight, issued, rfl, .inl rfl, by simp⟩

/-- It leaves slot writes waiting only behind a full buffer. -/
theorem settleLink_exhausts : (settleLink d).link.slotQueue = [] ∨ 4 ≤ (settleLink d).link.buffer.length := by
  obtain ⟨issued, hs⟩ := settleLink_noFault h hl
  rw [hs]
  exact grantEntries_exhausts 4 h (Nat.le_add_left 4 _)

end

end Sys2Proof.Machine
end

section
/-!
PROOFS. READ_ERROR and READ_TIMEOUT (R160), and what a fault leaves: the Fault Record, EVENT.FAULT and the entry into HALTED
with a post at the Executor and a trace held (R141, R155, R164, R167, R169).
-/
namespace Sys2Proof.Machine

open Sys2Proof

/-! ### The Executor's grant in progress (R77, R79) -/

/-- The Executor's post is the same, and a CANCEL between its two requests is at the same place. -/
def samePost (p q : Option CurrentPost) : Prop :=
  q.map CurrentPost.slot = p.map CurrentPost.slot
    ∧ ∀ slot target, p = some { slot := slot, work := .cancelSlot target } → q = p

/-- The map, the counters and the Executor's work have moved on, causes may have been set in EVENT, and a message may have
gone out or be pending. -/
def Device.Noted (d d' : Device) : Prop :=
  ∃ map sent bits msg n exec, samePost d.exec exec ∧ d' = { d with
    map := map
    link := { d.link with sent := sent }
    regs := { d.regs with event := d.regs.event ||| bits, msgPending := msg }
    counters := n
    exec := exec }

/-- With no cause set. -/
theorem Device.Noted.silent {d : Device} {exec : Option CurrentPost} (map : CorrectionMap) (n : Counters)
    (h : samePost d.exec exec) : d.Noted { d with map := map, counters := n, exec := exec } :=
  ⟨map, d.link.sent, 0, d.regs.msgPending, n, exec, h, by simp⟩

theorem samePost.refl (p : Option CurrentPost) : samePost p p := ⟨rfl, fun _ _ _ => rfl⟩

theorem Device.Noted.refl (d : Device) : d.Noted d := .silent d.map d.counters (.refl d.exec)

theorem countOutcome_frame (o : ReadOutcome) (d : Device) : ∃ n, countOutcome o d = { d with counters := n } := by
  cases o
  · exact ⟨d.counters, rfl⟩
  · exact ⟨_, rfl⟩
  · exact ⟨_, rfl⟩

/-- A read's count and its offer to the Map Error Log touch the map, the counters, EVENT and the message alone (R67, R68). -/
theorem noteRead_frame (node : Nat) (r : NodeRead) (who : Requester) (d : Device) :
    ∃ map sent bits msg n, noteRead node r who d = { d with
      map := map
      link := { d.link with sent := sent }
      regs := { d.regs with event := d.regs.event ||| bits, msgPending := msg }
      counters := n } := by
  obtain ⟨n, hn⟩ := countOutcome_frame r.outcome d
  cases hlog : d.map.log with
  | some e =>
    exact ⟨d.map, d.link.sent, 0, d.regs.msgPending, n, by rw [noteRead_full hlog, hn]; simp⟩
  | none =>
    by_cases hr : r.outcome = .clean
    · exact ⟨d.map, d.link.sent, 0, d.regs.msgPending, d.counters, by rw [noteRead_clean hr]; simp⟩
    · obtain ⟨sent, msg, h⟩ := noteRead_first hlog hr node who
      exact ⟨_, sent, 4, msg, n, by rw [h, hn]⟩

/-- Work at the map port goes on with the same post. -/
theorem setWork_samePost {d : Device} {slot : Fin 32} {w : Work} (he : d.exec = some { slot := slot, work := w })
    (hw : ∀ target, w ≠ .cancelSlot target) (w' : Work) : samePost d.exec (setWork w' d).exec := by
  refine ⟨by simp [setWork, he], fun slot' target h => ?_⟩
  rw [he, Option.some.injEq, CurrentPost.mk.injEq] at h
  exact absurd h.2 (hw target)

theorem answerExec_noted (g : Grant) (d : Device) : d.Noted (answerExec g d) := by
  unfold answerExec
  split
  · next slot w he =>
    obtain ⟨map, sent, bits, msg, n, h⟩ := noteRead_frame g.node (readNode d.map.nodes g.node).check .executor d
    simp only [h]
    exact ⟨_, sent, bits, msg, n, _, setWork_samePost he nofun _, rfl⟩
  · next slot w he =>
    obtain ⟨n, h⟩ := countOutcome_frame g.word.check.outcome d
    simp only [h]
    exact .silent _ n (setWork_samePost he nofun _)
  · exact .silent _ d.counters (.refl d.exec)

theorem finishExecGrant_noted (d : Device) : d.Noted (finishExecGrant d) := by
  unfold finishExecGrant
  split
  · split
    · exact answerExec_noted _ d
    · exact .refl d
  · exact .refl d

/-! ### The Executor's post and the trace end with FAULT (R141, R155) -/

/-- The writes that end a post with FAULT; the result of a CANCEL between its two requests gives the number 0 (R141, R143). -/
def Device.FaultWrites (d : Device) (p : CurrentPost) (ws : List HostWrite) : Prop :=
  ∃ fs, ws = [resultWrite (d.markOf p.slot) .fault .none fs, doneWrite (d.markOf p.slot)]
    ∧ ∀ target, p.work = .cancelSlot target → fs = le 1 0

/-- The Executor is idle, and the post it had has its writes in the slot write queue. -/
theorem faultExec_frame (d : Device) : ∃ map sent bits msg n ws, faultExec d = { d with
      map := map
      link := { d.link with sent := sent, slotQueue := d.link.slotQueue ++ ws }
      regs := { d.regs with event := d.regs.event ||| bits, msgPending := msg }
      counters := n
      exec := none }
    ∧ ∀ p, d.exec = some p → d.FaultWrites p ws := by
  cases he : d.exec with
  | none =>
    exact ⟨d.map, d.link.sent, 0, d.regs.msgPending, d.counters, [], by simp [faultExec_idle he, ← he], fun p h => nomatch h⟩
  | some p =>
    obtain ⟨map, sent, bits, msg, n, exec, ⟨hslot, hwork⟩, hnoted⟩ := finishExecGrant_noted d
    rw [he] at hslot hwork
    obtain ⟨q, rfl, hq⟩ := Option.map_eq_some_iff.1 hslot
    obtain ⟨m, hm⟩ := arbitrate_frame (completePost .fault .none
      (q.work.faultFields d.profiles.entries.length) (withdrawExec (finishExecGrant d)))
    have hfault : faultExec d = failExec (withdrawExec (finishExecGrant d)) := by simp only [faultExec, he]
    have hfail : failExec (withdrawExec (finishExecGrant d)) = arbitrate (completePost .fault .none
        (q.work.faultFields d.profiles.entries.length) (withdrawExec (finishExecGrant d))) := by
      rw [hnoted]; rfl
    rw [hfault, hfail, hm, hnoted]
    refine ⟨m, sent, bits, msg, n, _, rfl, fun p' h => ?_⟩
    obtain rfl := Option.some.inj h
    refine ⟨q.work.faultFields d.profiles.entries.length, by rw [← hq]; rfl, fun target ht => ?_⟩
    obtain rfl : q = p := Option.some.inj (hwork p.slot target (by rw [← ht]))
    rw [ht]; rfl

theorem faultTrace_frame (d : Device) : ∃ ws, (d.trace = none → ws = []) ∧ faultTrace d = { d with
    trace := none, link := { d.link with slotQueue := d.link.slotQueue ++ ws } } := by
  cases ht : d.trace with
  | none => exact ⟨[], fun _ => rfl, by simp only [faultTrace, ht, List.append_nil]; rw [← ht]⟩
  | some t => exact ⟨_, nofun, by simp only [faultTrace, ht]; rfl⟩

/-! ### The entry into HALTED (R169) -/

/-- What an entry into HALTED leaves: no read, sweep, prompt, post or trace, the idle timers paused, the writes there were
and behind them those that end the Executor's post and the trace, and the rest as it was. -/
structure Device.Halts (d d' : Device) : Prop where
  halted : d'.link.halted = true
  reads : d'.link.inFlight = none ∧ d'.link.waiting = []
  sweep : d'.intake.sweep = none ∧ d'.intake.promptPending = false
  work : d'.exec = none ∧ d'.trace = none
  delivery : d'.delivery = d.delivery.paused
  record : d'.link.faultRecord = d.link.faultRecord
  event : ∃ bits, d'.regs.event = d.regs.event ||| bits
  buffer : d.link.buffer <+: d'.link.buffer
  writes : ∃ ws ws', d'.link.buffer ++ d'.link.slotQueue = d.link.buffer ++ (d.link.slotQueue ++ ws ++ ws')
    ∧ (∀ p, d.exec = some p → d.FaultWrites p ws) ∧ (d.trace = none → ws' = [])
  kept : d'.kept = d.kept

theorem Device.Halts.slotsOnly {d d' : Device} (h : d.Halts d') : d'.SlotsOnly := by
  obtain ⟨he, ht⟩ := h.work
  exact ⟨.inl h.halted, fun t hs => (nomatch ht.symm.trans hs), by simp [bulkGrant, he]⟩

/-- Slot writes that move into the buffer afterwards change none of it. -/
theorem Device.Halts.shifts {d x y : Device} (h : d.Halts x) (hs : x.Shifts y) : d.Halts y := by
  have hwrites := hs.writes
  have hbuffer := hs.buffer
  obtain ⟨_, _, _, _, _, _, rfl⟩ := hs
  exact ⟨h.halted, h.reads, h.sweep, h.work, h.delivery, h.record, h.event, h.buffer.trans hbuffer,
    hwrites ▸ h.writes, h.kept⟩

theorem Device.Halts.settleLink {d d' : Device} (h : d.Halts d') : d.Halts (settleLink d') :=
  h.shifts (settleLink_shifts h.slotsOnly (.inl h.halted))

theorem pauseTimers_eq (d : Device) : pauseTimers d = { d with delivery := d.delivery.paused } := by
  rw [← pauseTimers_delivery]; rfl

theorem enterHalted_halts (d : Device) : d.Halts (enterHalted d) := by
  let x := faultSweep { d with link := { d.link with halted := true, inFlight := none, waiting := [] } }
  have hkept : (faultTrace (pauseTimers (faultExec x))).kept = d.kept := by
    simp only [kept_faultTrace, kept_pauseTimers, kept_faultExec]; rfl
  obtain ⟨map, sent, bits, msg, n, ws, hexec, hpost⟩ := faultExec_frame x
  obtain ⟨ws', hnone, htrace⟩ := faultTrace_frame (pauseTimers (faultExec x))
  have hhalts : d.Halts (faultTrace (pauseTimers (faultExec x))) := by
    rw [hexec, pauseTimers_eq] at htrace hkept hnone ⊢
    rw [htrace] at hkept ⊢
    exact ⟨rfl, ⟨rfl, rfl⟩, ⟨rfl, rfl⟩, ⟨rfl, rfl⟩, rfl, rfl, ⟨bits, rfl⟩, List.prefix_rfl,
      ⟨ws, ws', rfl, hpost, hnone⟩, hkept⟩
  exact hhalts.shifts (grantEntries_shifts 4 hhalts.slotsOnly)

/-! ### A fault (R167) -/

theorem recordFault_eq (cls : FaultClass) (site : Site) (slot : Option (Fin 32)) (d : Device) :
    recordFault cls site slot d = { d with link := { d.link with
      faultRecord := some (d.link.faultRecord.getD { cls := cls, site := site, slot := slot, clock := d.clock }) } } := by
  unfold recordFault
  split
  · next h => rw [h, Option.getD_some, ← h]
  · next h => rw [h]; rfl

/-- A part that has recorded a fault, set EVENT.FAULT, and sent or kept the message due. -/
def Device.faulted (d : Device) (e : FaultEntry) (sent : List LinkOut) (msg : Bool) : Device :=
  { d with
    link := { d.link with sent := sent, faultRecord := some (d.link.faultRecord.getD e) }
    regs := { d.regs with event := d.regs.event ||| 2, msgPending := msg } }

/-- A fault is recorded, EVENT.FAULT is set, and HALTED entered. -/
theorem raiseFault_halts (cls : FaultClass) (site : Site) (slot : Option (Fin 32)) (d : Device) : ∃ sent msg,
    (d.faulted { cls := cls, site := site, slot := slot, clock := d.clock } sent msg).Halts (raiseFault cls site slot d) := by
  obtain ⟨sent, msg, h⟩ := setCause_frame .fault (recordFault cls site slot d)
  rw [raiseFault, h, recordFault_eq]
  exact ⟨sent, msg, enterHalted_halts _⟩

/-! ### READ_ERROR and READ_TIMEOUT (R160) -/

/-- A read in flight that fails ends, and its fault is raised with its site and slot. -/
theorem readFails_halts {d : Device} {f : ReadInFlight} (h : d.link.inFlight = some f) (cls : FaultClass) : ∃ sent msg,
    ((endRead d).faulted { cls := cls, site := f.req.site, slot := f.req.slot, clock := d.clock } sent msg).Halts
      (readFails cls d) := by
  obtain ⟨sent, msg, hhalts⟩ := raiseFault_halts cls f.req.site f.req.slot (endRead d)
  refine ⟨sent, msg, ?_⟩
  simp only [readFails, readFault, h]
  exact hhalts.settleLink

/-- With no read in flight READ_ERROR is the settling of the Link Port alone. -/
theorem exec_readError_none {s : State} (h : s.dev.link.inFlight = none) :
    Sys2Proof.Machine.exec .readError s = .next (onDevice settleLink s) := by
  have hnone : readFails .readError s.dev = settleLink s.dev := by simp only [readFails, readFault, h]
  exact congrArg (fun d => Host.Outcome.next { s with dev := d }) hnone

/-- A part that can issue writes, with no read in flight, whose Posted Write Buffer holds a write that is not being issued. -/
def headWaits : State :=
  let l := State.reset.dev.link
  { State.reset with dev := { State.reset.dev with link := { l with
    inputs := { l.inputs with mastering := true }, buffer := [{ role := .record, addr := 0, data := [] }] } } }

/-- Refutes O46, in its first clause: with no read in flight READ_ERROR still settles the Link Port (log entry 13), and a head
write that waits at a link that takes it is then issued. The statement is about every state and does not ask that no head
waits. What a read in flight that fails leaves is said by readFails_halts. -/
theorem not_readFaultsHalt : ¬ Obligations.ReadFaultsHalt := by
  intro h
  obtain ⟨hnone, -⟩ := h headWaits .readError .readError (.inl ⟨rfl, rfl⟩)
  have hsettled : onDevice settleLink headWaits = headWaits :=
    Host.Outcome.next.inj ((exec_readError_none rfl).symm.trans (hnone rfl))
  have hissued : (settleLink headWaits.dev).link.issued = true := by decide
  have hwaits : headWaits.dev.link.issued = false := rfl
  rw [← congrArg (fun s => s.dev.link.issued) hsettled] at hwaits
  exact Bool.false_ne_true (hwaits.symm.trans hissued)

end Sys2Proof.Machine
end

section
/-!
PROOFS. CANCEL, found by a sweep (R122, R123, R141 to R143, R154): the captures or the trace it names complete before it does.
-/
namespace Sys2Proof.Machine

open Sys2Proof

/-! ### A post taken whose writes need not all find room (R136, R162) -/

/-- Slot writes move the same whatever the sweep. -/
theorem Device.Shifts.setSweep {d d' : Device} (h : d.Shifts d') (sw : Option Sweep) :
    (setSweep sw d).Shifts (setSweep sw d') := by
  obtain ⟨moved, rest, marks, issued, hq, hroom, rfl⟩ := h
  exact ⟨moved, rest, marks, issued, hq, hroom, rfl⟩

section
variable {d : Device} {slot : Fin 32}

/-- What a post's beginning leaves for the sweep's end, where slot writes may wait: the sweep, no prompt, the mode, no read
waiting, and a link that takes writes. -/
structure Device.Leaves (d x : Device) : Prop where
  sweep : x.intake.sweep = d.intake.sweep
  prompt : x.intake.promptPending = d.intake.promptPending
  batch : x.regs.batch = d.regs.batch
  waiting : x.link.waiting = d.link.waiting
  canIssue : x.link.canIssue = true
  slotsOnly : x.SlotsOnly

/-- A post of the Executor's kinds that a sweep finds is taken, its writes go to the buffer behind its TAKEN write as there is
room, and the sweep ends. -/
theorem postFound_shifts {p : Post} {x : Device} (h : d.Open slot (postKind p)) (notify : Bool)
    (hk : executorKind (postKind p) = true)
    (hx : beginPost slot p (d.taking (d.foundMark slot (postKind p) notify)) = x) (hl : d.Leaves x) :
    (setSweep none (setRotation slot x)).Shifts (postFound slot notify p d) := by
  let y := settleLink (setRotation slot x)
  have hy : (setRotation slot x).Shifts y :=
    settleLink_shifts (hl.slotsOnly.keep rfl rfl rfl rfl) (.inr hl.canIssue)
  have hend : postFound slot notify p d = settleLink (setSweep none y) := by
    obtain ⟨rest, hr, hfound⟩ := postFound_finds notify h.finds
    obtain ⟨sw, -, -, hs, -⟩ := h.finds.waits
    have htaken := takeSlot_finds h.finds notify (beginPost slot p)
    have hframe : y.intake.sweep = x.intake.sweep ∧ y.intake.promptPending = x.intake.promptPending
        ∧ y.regs.batch = x.regs.batch ∧ y.link.waiting = x.link.waiting := by
      obtain ⟨_, _, _, _, _, _, hy⟩ := hy
      rw [hy]; exact ⟨rfl, rfl, rfl, rfl⟩
    obtain ⟨hsweep, hprompt, hbatch, hwaiting⟩ := hframe
    rw [hx] at htaken
    rw [hfound, settlePost_executor hk (by exact h.idle)]
    show afterRead (sweepGoesOn rest _ (some (takeSlot _ (beginPost slot p) (endRead d)))) = _
    rw [htaken, sweepGoesOn_ends (by rw [hbatch, hl.batch]; exact hr),
      sweepDone_unprompted (by rw [hsweep, hl.sweep, hs]; rfl) (hprompt.trans (hl.prompt.trans h.finds.unprompted)),
      afterRead, pumpReads_none (by exact hwaiting.trans (hl.waiting.trans h.finds.calm.waiting))]
  have hswept := hy.setSweep none
  rw [hend]
  refine hswept.trans (settleLink_shifts (hswept.slotsOnly ?_) (.inr ?_))
  · exact hl.slotsOnly.keep rfl rfl rfl rfl
  · obtain ⟨_, _, _, _, _, _, hy⟩ := hy
    rw [hy]; exact hl.canIssue

/-! ### What the cancel requests do (R122, R123, R154) -/

/-- The part as a CANCEL's own completion comes: the captures, counters and trace the requests have left, and the writes
they have handed over. -/
def Device.cancelled (d : Device) (m : SlotMark) (caps : List Capture) (n : Counters) (tr : Option TraceJob)
    (ws : List HostWrite) (issued : Bool) : Device :=
  { d.taking m with
    delivery := { d.delivery with captures := caps }
    counters := n
    exec := none
    trace := tr
    link := { (d.taking m).link with slotQueue := ws, issued := issued } }

/-- A CANCEL completed: what its requests left stands, and the writes they handed over go before its own two. -/
structure Device.Answers (d : Device) (m : SlotMark) (caps : List Capture) (n : Counters) (tr : Option TraceJob)
    (ws : List HostWrite) (count : Nat) (t : Device) : Prop where
  delivery : t.delivery = { d.delivery with captures := caps }
  counters : t.counters = n
  trace : t.trace = tr
  exec : t.exec = none
  bounded : t.link.buffer.length ≤ 4
  writes : t.link.buffer ++ t.link.slotQueue
    = [takenWrite m] ++ ws ++ [resultWrite m .ok .none (le 1 count), doneWrite m]

variable {p : CancelParams} {caps : List Capture} {n : Counters} {tr : Option TraceJob} {ws : List HostWrite} {issued : Bool}
  {count : Nat}

/-- The CANCEL's own result and DONE come last. -/
theorem answerCancel_cancelled (m : SlotMark) : answerCancel m.slot (d.cancelled m caps n tr ws issued, count)
    = d.cancelled m caps n tr (ws ++ [resultWrite m .ok .none (le 1 count), doneWrite m]) issued := by
  have hmark : (d.cancelled m caps n tr ws issued).markOf m.slot = m := markOf_marked d m
  rw [answerCancel, completeAtOnce, completeSlot, hmark]
  rfl

theorem postFound_answers (h : d.Open slot 8) (notify : Bool) (ht : tr = none ∨ tr = d.trace)
    (hx : beginCancel slot p (d.taking (d.foundMark slot 8 notify))
      = answerCancel slot (d.cancelled (d.foundMark slot 8 notify) caps n tr ws issued, count)) :
    d.Answers (d.foundMark slot 8 notify) caps n tr ws count (postFound slot notify (.cancel p) d) := by
  let m := d.foundMark slot 8 notify
  let x := d.cancelled m caps n tr (ws ++ [resultWrite m .ok .none (le 1 count), doneWrite m]) issued
  have hstaging : ∀ t, tr = some t → t.staging = [] := by
    rcases ht with rfl | rfl
    · exact fun _ h => nomatch h
    · exact h.finds.calm.staging
  have hshifts : (setSweep none (setRotation slot x)).Shifts (postFound slot notify (.cancel p) d) :=
    postFound_shifts (p := .cancel p) h notify rfl (hx.trans (answerCancel_cancelled m)) ⟨rfl, rfl, rfl, rfl,
      h.finds.calm.canIssue, .inr (.inl h.finds.calm.holding), hstaging, rfl⟩
  have hwrites := hshifts.writes
  have hbounded := hshifts.bounded (Nat.le_add_left 1 3)
  obtain ⟨_, _, _, _, _, _, ht⟩ := hshifts
  rw [ht] at hwrites hbounded ⊢
  exact ⟨rfl, rfl, rfl, rfl, hbounded, hwrites.trans (List.append_assoc _ _ _).symm⟩

/-! ### The captures (R122, R123) -/

/-- The writes of a capture that a CANCEL completes (R121). -/
def Device.cancelWrites (d : Device) (c : Capture) : List HostWrite :=
  [resultWrite (d.markOf c.slot) .cancelled .none (c.fields .cancelled), doneWrite (d.markOf c.slot)]

/-- Captures completed in order leave the queue and are counted, and their writes are handed over in that order. -/
theorem cancelEach_eq (caps : List Capture) : ∀ d : Device, cancelEach caps d = { d with
    delivery := { d.delivery with captures := d.delivery.captures.filter fun x => caps.all fun c => x.slot != c.slot }
    counters := { d.counters with capCancelled := d.counters.capCancelled + BitVec.ofNat 32 caps.length }
    link := { d.link with slotQueue := d.link.slotQueue ++ caps.flatMap d.cancelWrites } } := by
  induction caps with
  | nil => intro d; simp [cancelEach]
  | cons c rest ih =>
    intro d
    have hcount : d.counters.capCancelled + 1 + BitVec.ofNat 32 rest.length
        = d.counters.capCancelled + BitVec.ofNat 32 (rest.length + 1) := by
      rw [BitVec.ofNat_add, BitVec.add_assoc, BitVec.add_comm 1]; rfl
    have hwrites : (completeCapture c .cancelled d).cancelWrites = d.cancelWrites := rfl
    rw [cancelEach, ih, hwrites]
    simp only [completeCapture, completeSlot, handOver, Counters.bumpReason, List.filter_filter, List.all_cons,
      List.flatMap_cons, List.length_cons, hcount, List.append_assoc, Bool.and_comm]
    rfl

/-- With one capture to a slot, the captures of the slots that a mask meets are those whose masks it meets. -/
theorem filter_slots_of_nodup {caps : List Capture} (hn : (caps.map fun c => c.slot).Nodup) (meets : Capture → Bool) :
    (caps.filter fun x => (caps.filter meets).all fun c => x.slot != c.slot) = caps.filter fun c => !meets c := by
  refine List.filter_congr fun x hx => ?_
  rw [Bool.eq_iff_iff]
  simp only [List.all_eq_true, List.mem_filter, bne_iff_ne, Bool.not_eq_true', and_imp]
  constructor
  · exact fun h => Bool.eq_false_iff.2 fun hm => h x hx hm rfl
  · rintro h c hc hm he
    rw [List.inj_on_of_nodup_map hn hx hc he] at h
    exact Bool.false_ne_true (h.symm.trans hm)

/-! ### The requests of a CANCEL that is taken (R142, R143) -/

section
variable (m : SlotMark)

/-- As its work begins a post has handed over no write. -/
theorem Device.Open.taking_eq_cancelled {kind : Byte} (h : d.Open slot kind) :
    d.taking m = d.cancelled m d.delivery.captures d.counters d.trace [] d.link.issued := by
  rw [Device.cancelled, ← h.idle, ← h.finds.calm.slotQueue]; rfl

theorem cancelEach_cancelled (hits : List Capture) : cancelEach hits (d.cancelled m caps n tr [] issued)
    = d.cancelled m (caps.filter fun x => hits.all fun c => x.slot != c.slot)
      { n with capCancelled := n.capCancelled + BitVec.ofNat 32 hits.length } tr
      (hits.flatMap (d.marked m).cancelWrites) issued := by
  rw [cancelEach_eq]; rfl

theorem completeCapture_cancelled (c : Capture) : completeCapture c .cancelled (d.cancelled m caps n tr [] issued)
    = d.cancelled m (caps.filter fun x => x.slot != c.slot) { n with capCancelled := n.capCancelled + 1 } tr
      ((d.marked m).cancelWrites c) issued := rfl

/-- The writes of a trace that a CANCEL ends (R152, R154). -/
def Device.cancelTraceWrites (d : Device) (j : TraceJob) : List HostWrite :=
  [resultWrite (d.markOf j.slot) .cancelled .none j.fields, doneWrite (d.markOf j.slot)]

theorem endTrace_cancelled (j : TraceJob) : endTrace .cancelled .none j (d.cancelled m caps n tr [] issued)
    = d.cancelled m caps n none ((d.marked m).cancelTraceWrites j) issued := rfl

end

/-- A CANCEL by mask is a request to the Delivery Unit, if its mask names a channel (R122, R142). -/
theorem beginCancel_mask {mask : Byte} {channels : PerChannel Bool} (hm : parseMask mask = some channels) {x : Device} :
    beginCancel slot { target := 1, mask := mask, slot := 0 } x = answerCancel slot (cancelByMask channels x) := by
  simp [beginCancel, hm]

theorem beginCancel_noMask {mask : Byte} (hm : parseMask mask = none) {x : Device} :
    beginCancel slot { target := 1, mask := mask, slot := 0 } x = completeAtOnce slot .rejected .range [] x := by
  simp [beginCancel, hm]

/-- A CANCEL by slot goes to both units, if its slot is one (R142). -/
theorem beginCancel_slot {target : Byte} (ht : target.toNat < 32) (x : Device) :
    beginCancel slot { target := 3, mask := 0, slot := target } x = cancelBySlot slot ⟨target.toNat, ht⟩ x := dif_pos ht

theorem slotIs_eq {k : Nat} (hk : k < 32) : (fun c : Capture => c.slot == ⟨k, hk⟩) = fun c => c.slot.val == k := by
  funext c
  rw [Bool.eq_iff_iff, beq_iff_eq, beq_iff_eq, Fin.ext_iff]

theorem cancelBySlot_capture {k : Nat} {hk : k < 32} {x : Device} {c : Capture}
    (hc : x.delivery.captures.find? (fun c => c.slot.val == k) = some c) :
    cancelBySlot slot ⟨k, hk⟩ x = answerCancel slot (completeCapture c .cancelled x, 1) := by
  rw [cancelBySlot, slotIs_eq, hc]

theorem cancelBySlot_none {k : Nat} {hk : k < 32} {x : Device}
    (hnone : x.delivery.captures.find? (fun c => c.slot.val == k) = none) : cancelBySlot slot ⟨k, hk⟩ x
      = cancelSecond slot ⟨k, hk⟩ (settleLink (setCurrent slot (.cancelSlot ⟨k, hk⟩) x)) := by
  rw [cancelBySlot, slotIs_eq, hnone]

section
variable (h : d.Open slot 8) (notify : Bool)
include h

/-- A CANCEL that a check fails is rejected RANGE. -/
theorem cancel_rejected (hx : ∀ x, beginCancel slot p x = completeAtOnce slot .rejected .range [] x) :
    postFound slot notify (.cancel p) d = d.swept.completedSlot (d.foundMark slot 8 notify) .rejected .range [] :=
  postFound_completes (p := .cancel p) h notify rfl (hx _)

/-- A CANCEL by mask completes the captures whose masks it meets, in queue order (R122). -/
theorem cancelMask_answers {mask : Byte} (hm : mask = 1 ∨ mask = 2 ∨ mask = 3)
    (hn : (d.delivery.captures.map fun c => c.slot).Nodup) :
    let hits := d.delivery.captures.filter fun c => c.meets { a := mask.getLsbD 0, b := mask.getLsbD 1 }
    d.Answers (d.foundMark slot 8 notify)
      (d.delivery.captures.filter fun c => !c.meets { a := mask.getLsbD 0, b := mask.getLsbD 1 })
      { d.counters with capCancelled := d.counters.capCancelled + BitVec.ofNat 32 hits.length } d.trace
      (hits.flatMap (d.marked (d.foundMark slot 8 notify)).cancelWrites) hits.length
      (postFound slot notify (.cancel { target := 1, mask := mask, slot := 0 }) d) := by
  intro hits
  refine postFound_answers (issued := d.link.issued) h notify (.inr rfl) ?_
  rw [beginCancel_mask (parseMask_channels hm), h.taking_eq_cancelled]
  show answerCancel slot (cancelEach hits _, hits.length) = _
  rw [cancelEach_cancelled, filter_slots_of_nodup hn]

/-- A CANCEL of the trace ends it, if one is held (R154). -/
theorem cancelTrace_answers (ws : List HostWrite) (count : Nat)
    (hws : (d.trace = none ∧ ws = [] ∧ count = 0)
      ∨ ∃ j, d.trace = some j ∧ ws = (d.marked (d.foundMark slot 8 notify)).cancelTraceWrites j ∧ count = 1) :
    d.Answers (d.foundMark slot 8 notify) d.delivery.captures d.counters none ws count
      (postFound slot notify (.cancel { target := 2, mask := 0, slot := 0 }) d) := by
  refine postFound_answers (issued := d.link.issued) h notify (.inl rfl) ?_
  show answerCancel slot (cancelHeldTrace (d.taking (d.foundMark slot 8 notify))) = _
  rw [h.taking_eq_cancelled]
  rcases hws with ⟨ht, rfl, rfl⟩ | ⟨j, ht, rfl, rfl⟩ <;> rw [ht] <;> rfl

/-- A CANCEL by slot that meets an open capture there completes it (R123). -/
theorem cancelSlot_capture {target : Byte} (ht : target.toNat < 32) {c : Capture}
    (hc : d.delivery.captures.find? (fun c => c.slot.val == target.toNat) = some c) :
    d.Answers (d.foundMark slot 8 notify) (d.delivery.captures.filter fun x => x.slot.val != target.toNat)
      { d.counters with capCancelled := d.counters.capCancelled + 1 } d.trace
      ((d.marked (d.foundMark slot 8 notify)).cancelWrites c) 1
      (postFound slot notify (.cancel { target := 3, mask := 0, slot := target }) d) := by
  refine postFound_answers (issued := d.link.issued) h notify (.inr rfl) ?_
  have hslot : c.slot.val = target.toNat := by simpa using List.find?_some hc
  have hfilter : (fun x : Capture => x.slot != c.slot) = fun x => x.slot.val != target.toNat := by
    funext x
    rw [← hslot, Bool.eq_iff_iff, bne_iff_ne, bne_iff_ne, ne_eq, ne_eq, Fin.ext_iff]
  rw [beginCancel_slot ht, cancelBySlot_capture (by exact hc), h.taking_eq_cancelled, completeCapture_cancelled, hfilter]

/-- One that meets no open capture makes its second request, at the Trace Unit (R142). -/
theorem cancelSlot_second {target : Byte} (ht : target.toNat < 32)
    (hnone : d.delivery.captures.find? (fun c => c.slot.val == target.toNat) = none) :
    beginCancel slot { target := 3, mask := 0, slot := target } (d.taking (d.foundMark slot 8 notify))
      = answerCancel slot (cancelTraceAt ⟨target.toNat, ht⟩
        (d.cancelled (d.foundMark slot 8 notify) d.delivery.captures d.counters d.trace [] true)) := by
  let m := d.foundMark slot 8 notify
  let w := setCurrent slot (.cancelSlot ⟨target.toNat, ht⟩) (d.taking m)
  have hn := h.finds.taking_noProducer m
  have hw : w.NoProducer := ⟨hn.drain, hn.slotQueue, hn.staging, rfl⟩
  have hsettle : settleLink w = w.wrote [takenWrite m] :=
    settleLink_issues hw (h.finds.taking_canIssue m) (List.cons_ne_nil _ _)
  have hidle : { w.wrote [takenWrite m] with exec := none }
      = d.cancelled m d.delivery.captures d.counters d.trace d.link.slotQueue true := rfl
  rw [h.finds.calm.slotQueue] at hidle
  rw [beginCancel_slot ht, cancelBySlot_none (by exact hnone), ← hidle]
  exact congrArg (cancelSecond slot ⟨target.toNat, ht⟩) hsettle

/-- It ends a trace held at that slot (R154). -/
theorem cancelSlot_trace {target : Byte} (ht : target.toNat < 32)
    (hnone : d.delivery.captures.find? (fun c => c.slot.val == target.toNat) = none) {j : TraceJob}
    (hj : d.trace = some j) (hslot : j.slot.val = target.toNat) :
    d.Answers (d.foundMark slot 8 notify) d.delivery.captures d.counters none
      ((d.marked (d.foundMark slot 8 notify)).cancelTraceWrites j) 1
      (postFound slot notify (.cancel { target := 3, mask := 0, slot := target }) d) := by
  refine postFound_answers (issued := true) h notify (.inl rfl) ?_
  rw [cancelSlot_second h notify ht hnone, hj, ← endTrace_cancelled (tr := some j)]
  exact congrArg (answerCancel slot) (if_pos (Fin.ext hslot))

/-- With neither there it completes with the number 0. -/
theorem cancelSlot_nothing {target : Byte} (ht : target.toNat < 32)
    (hnone : d.delivery.captures.find? (fun c => c.slot.val == target.toNat) = none)
    (hno : ∀ j, d.trace = some j → j.slot.val ≠ target.toNat) :
    d.Answers (d.foundMark slot 8 notify) d.delivery.captures d.counters d.trace [] 0
      (postFound slot notify (.cancel { target := 3, mask := 0, slot := target }) d) := by
  refine postFound_answers (issued := true) h notify (.inr rfl) ?_
  rw [cancelSlot_second h notify ht hnone]
  cases hj : d.trace with
  | none => rfl
  | some j => exact congrArg (answerCancel slot) (if_neg fun he => hno j hj (congrArg Fin.val he))

end

end

/-! ### An entry into HALTED between the two requests (R143, R166, R169) -/

section
variable {d : Device} {slot : Fin 32} {m : SlotMark}

/-- A slot's work begins on Device.taking wherever no producer waits and the buffer is empty, whether or not the link takes
writes. -/
theorem takeSlot_noProducer (hn : d.NoProducer) (hb : d.link.buffer = []) (hc : d.isInFlight m.slot = false)
    (handOn : Device → Device) :
    takeSlot m handOn (endRead d) = settleLink (setRotation m.slot (handOn (d.taking m))) := by
  have hmarked : ((endRead d).marked m).NoProducer := hn.keep rfl rfl rfl rfl
  have hbuffer : ((endRead d).marked m).link.buffer = [] := hb
  have hin : slotWriteIn (takenWrite m) ((endRead d).marked m) = d.taking m := by
    rw [slotWriteIn, enterSlotWrite_eq, hbuffer]; rfl
  have hgrants : grants (handOver [takenWrite m] ((endRead d).marked m)) = d.taking m :=
    (grantEntries_handOver hmarked (by simp) (by simp [hbuffer])).trans hin
  rw [takeSlot, setMark_clear (by exact hc), hgrants]

/-- With the link ACTIVE and mastering disabled, a head that is to be issued raises MASTER_OFF at the drain site. -/
theorem settleLink_masterOff (hn : d.NoProducer) (hb : d.link.buffer ≠ []) (hi : d.link.issued = false)
    (hh : d.link.halted = false) (hup : d.link.inputs.up = true) (hm : d.link.inputs.mastering = false) :
    settleLink d = raiseFault .masterOff .drain none d := by
  have hblocked : blockedClass d = (.masterOff, d) := if_pos hup
  rw [settleLink, grants, grantEntries_noProducer hn, issueHead, if_neg (by simp [hb, hi]),
    if_neg (by simp [LinkPort.canIssue, hm]), if_neg (by simp [hh]), raiseBlocked, hblocked]

/-- A slot whose taking has ended in HALTED: no sweep goes on, and the waiting slot writes move as there is room. -/
theorem afterRead_halted {x y t e : Device} (hx : y.Halts x) {rest : List (Fin 32)}
    (hr : x.regs.batch = false ∨ rest = [])
    (ht : afterRead (sweepGoesOn rest e (some (settleLink (setRotation slot x)))) = t) :
    (setRotation slot x).Shifts t ∧ (t.link.slotQueue = [] ∨ 4 ≤ t.link.buffer.length) := by
  have hslots : (setRotation slot x).SlotsOnly := hx.slotsOnly.keep rfl rfl rfl rfl
  have hshifts := settleLink_shifts hslots (.inl hx.halted)
  have hslots' := hshifts.slotsOnly hslots
  obtain ⟨hhalted, hsweep, hbatch, hwaiting⟩ : (settleLink (setRotation slot x)).link.halted = true
      ∧ (settleLink (setRotation slot x)).intake.sweep = none
      ∧ (settleLink (setRotation slot x)).regs.batch = x.regs.batch
      ∧ (settleLink (setRotation slot x)).link.waiting = [] := by
    obtain ⟨_, _, _, _, _, _, h⟩ := hshifts
    rw [h]
    obtain ⟨-, hwaiting⟩ := hx.reads
    obtain ⟨hsweep, -⟩ := hx.sweep
    exact ⟨hx.halted, hsweep, rfl, hwaiting⟩
  rw [sweepGoesOn_ends (by rw [hbatch]; exact hr), sweepDone, hsweep, afterRead, pumpReads_none hwaiting] at ht
  rw [← ht]
  exact ⟨hshifts.trans (settleLink_shifts hslots' (.inl hhalted)), settleLink_exhausts hslots' (.inl hhalted)⟩

/-- A part whose sweep waits for the body of a CANCEL of a slot, with the Executor idle and no trace held, as mastering was
disabled (R166). -/
structure Device.Blocked (d : Device) (slot : Fin 32) : Prop where
  mastered : Device.Open { d with link := { d.link with inputs := { d.link.inputs with mastering := true } } } slot 8
  mastering : d.link.inputs.mastering = false
  untraced : d.trace = none

/-- The part as the second request of the CANCEL would come: the TAKEN write stands in the buffer. -/
def Device.between (d : Device) (m : SlotMark) (k : Fin 32) : Device := setCurrent m.slot (.cancelSlot k) (d.taking m)

theorem Device.Blocked.noProducer (h : d.Blocked slot) : d.NoProducer :=
  h.mastered.finds.calm.noProducer.keep rfl rfl rfl rfl

/-- Between the two requests the TAKEN write raises MASTER_OFF. -/
theorem Device.Blocked.settleLink_between (h : d.Blocked slot) (m : SlotMark) (k : Fin 32) :
    settleLink (d.between m k) = raiseFault .masterOff .drain none (d.between m k) := by
  have hn := h.noProducer
  exact settleLink_masterOff ⟨hn.drain, hn.slotQueue, hn.staging, rfl⟩ (List.cons_ne_nil _ _) h.mastered.finds.calm.issued
    h.mastered.finds.calm.live h.mastered.finds.calm.up h.mastering

/-- An entry into HALTED there ends the CANCEL with FAULT and the number 0 (R143). -/
theorem Device.Blocked.between_writes (h : d.Blocked slot) {k : Fin 32} {e : FaultEntry} {sent : List LinkOut} {msg : Bool}
    {x : Device} (hx : ((d.between m k).faulted e sent msg).Halts x) : x.link.buffer ++ x.link.slotQueue
      = [takenWrite m, resultWrite m .fault .none (le 1 0), doneWrite m] := by
  have hmark : ((d.between m k).faulted e sent msg).markOf m.slot = m := markOf_marked d m
  have hqueue : ((d.between m k).faulted e sent msg).link.slotQueue = [] := h.mastered.finds.calm.slotQueue
  obtain ⟨ws, ws', hwrites, hpost, hnone⟩ := hx.writes
  obtain ⟨fs, hws, hfs⟩ := hpost { slot := m.slot, work := .cancelSlot k } rfl
  rw [hwrites, hnone h.untraced, hqueue, hws, hfs k rfl, hmark]
  rfl

/-- What such an entry into HALTED leaves: the CANCEL's three writes in the buffer, no post, no sweep, the idle timers paused,
and in an empty Fault Record MASTER_OFF at the drain site. -/
structure Device.Aborts (d : Device) (m : SlotMark) (t : Device) : Prop where
  halted : t.link.halted = true
  exec : t.exec = none
  sweep : t.intake.sweep = none
  delivery : t.delivery = d.delivery.paused
  buffer : t.link.buffer = [takenWrite m, resultWrite m .fault .none (le 1 0), doneWrite m]
  record : t.link.faultRecord
    = some (d.link.faultRecord.getD { cls := .masterOff, site := .drain, slot := none, clock := d.clock })

theorem Device.Blocked.aborts (h : d.Blocked slot) {k : Fin 32} {sent : List LinkOut} {msg : Bool} {x t : Device}
    (hx : ((d.between m k).faulted { cls := .masterOff, site := .drain, slot := none, clock := d.clock } sent msg).Halts x)
    (hshifts : (setRotation slot x).Shifts t) (hend : t.link.slotQueue = [] ∨ 4 ≤ t.link.buffer.length) :
    d.Aborts m t := by
  have hwritten := h.between_writes hx
  have hwrites : t.link.buffer ++ t.link.slotQueue = _ := hshifts.writes.trans hwritten
  have hbuffer : t.link.buffer = [takenWrite m, resultWrite m .fault .none (le 1 0), doneWrite m] := by
    rcases hend with hqueue | hfull
    · rwa [hqueue, List.append_nil] at hwrites
    · have hlength := congrArg List.length hwrites
      simp only [List.length_append, List.length_cons, List.length_nil] at hlength
      omega
  obtain ⟨_, _, _, _, _, _, rfl⟩ := hshifts
  obtain ⟨hexec, -⟩ := hx.work
  obtain ⟨hsweep, -⟩ := hx.sweep
  exact ⟨hx.halted, hexec, hsweep, hx.delivery, hbuffer, hx.record⟩

/-- The CANCEL ends there, and no second request is made (R143). -/
theorem postFound_aborts (h : d.Blocked slot) (notify : Bool) {target : Byte} (ht : target.toNat < 32)
    (hnone : d.delivery.captures.find? (fun c => c.slot.val == target.toNat) = none) :
    d.Aborts (d.foundMark slot 8 notify)
      (postFound slot notify (.cancel { target := 3, mask := 0, slot := target }) d) := by
  let m := d.foundMark slot 8 notify
  let p : Post := .cancel { target := 3, mask := 0, slot := target }
  let x := raiseFault .masterOff .drain none (d.between m ⟨target.toNat, ht⟩)
  obtain ⟨sw, rest, f, hs, hp, hk, hf, hb, hr⟩ := h.mastered.finds.waits
  obtain ⟨sent, msg, hx⟩ := raiseFault_halts .masterOff .drain none (d.between m ⟨target.toNat, ht⟩)
  have hmark : sw.mark slot notify = m := by
    simp only [Sweep.mark, m, Device.foundMark, Device.sweepBase, show d.intake.sweep = some sw from hs, hk]
  have hbegin : beginPost slot p (d.taking m) = x := by
    show beginCancel slot { target := 3, mask := 0, slot := target } (d.taking m) = x
    rw [beginCancel_slot ht, cancelBySlot_none (by exact hnone)]
    show cancelSecond slot _ (settleLink (d.between m _)) = _
    obtain ⟨hidle, -⟩ := hx.work
    rw [h.settleLink_between, cancelSecond, hidle]
  have hfound : postFound slot notify p d
      = afterRead (sweepGoesOn rest (endRead d) (some (settleLink (setRotation slot x)))) := by
    rw [postFound_awaited notify ((awaitsBody_iff d slot (postKind p)).2 ⟨sw, rest, f, hs, hp, hk, hf, hb⟩) (by exact hs) hp,
      hmark, settleBody, if_neg (by exact Bool.not_eq_true _ ▸ h.mastered.finds.clear)]
    show afterRead (sweepGoesOn rest _ (settlePost m p (endRead d))) = _
    rw [settlePost_executor rfl (by exact h.mastered.idle), takeSlot_noProducer h.noProducer h.mastered.finds.calm.buffer
      (by exact h.mastered.finds.clear)]
    show afterRead (sweepGoesOn rest _ (some (settleLink (setRotation slot (beginPost slot p (d.taking m)))))) = _
    rw [hbegin]
  have hbatch : x.regs.batch = d.regs.batch := congrArg (fun k => k.regs.batch) hx.kept
  obtain ⟨hshifts, hend⟩ := afterRead_halted hx (by rw [hbatch]; exact hr) hfound.symm
  exact h.aborts hx hshifts hend

end

/-- Settles O43. -/
theorem cancelCompletesWork : Obligations.CancelCompletesWork := by
  refine ⟨fun s slot notify mask target hopen => ?taken, fun s slot notify target hopen hm htr ht hnone => ?faults⟩
  case taken =>
    intro m rejected markOf capWrites traceWrites ends meets hits
    have answers : ∀ {caps n tr ws count t}, s.dev.Answers m caps n tr ws count t →
        ends { s with dev := t } ws count := fun h =>
      ⟨rfl, h.delivery ▸ hopen.finds.calm.holding, h.bounded, h.exec, h.writes⟩
    have rejects : ∀ {p : CancelParams}, (∀ x, beginCancel slot p x = completeAtOnce slot .rejected .range [] x) →
        ({ s with dev := postFound slot notify (.cancel p) s.dev } : State) = rejected := fun hx => by
      rw [cancel_rejected hopen notify hx]
    refine ⟨fun hmask => congrArg Host.Outcome.next (rejects fun x => ?mask), fun hmask hnodup => ?captures, ?trace,
      fun h32 => congrArg Host.Outcome.next (rejects fun x => ?slot),
      fun ht => ⟨_, rfl, fun c hc => ?capture, fun hnone => ?second⟩⟩
    case mask => exact beginCancel_noMask (parseMask_none hmask)
    case slot => exact dif_neg (Nat.not_lt.2 h32)
    case captures =>
      have h := cancelMask_answers hopen notify hmask hnodup
      exact ⟨_, rfl, answers h, h.trace, congrArg Delivery.captures h.delivery, h.counters⟩
    case trace =>
      have done := cancelTrace_answers hopen notify
      refine ⟨_, rfl, ?_⟩
      cases hj : s.dev.trace with
      | none =>
        have h := done [] 0 (.inl ⟨hj, rfl, rfl⟩)
        exact ⟨h.trace, h.delivery, h.counters, fun _ => answers h, fun j hj' => nomatch hj'⟩
      | some j =>
        have h := done _ 1 (.inr ⟨j, hj, rfl, rfl⟩)
        exact ⟨h.trace, h.delivery, h.counters, nofun, fun j' hj' => Option.some.inj hj' ▸ answers h⟩
    case capture =>
      have h := cancelSlot_capture hopen notify ht hc
      exact ⟨answers h, h.trace, congrArg Delivery.captures h.delivery, h.counters⟩
    case second =>
      by_cases hheld : ∃ j, s.dev.trace = some j ∧ j.slot.val = target.toNat
      · obtain ⟨j, hj, hslot⟩ := hheld
        have h := cancelSlot_trace hopen notify ht hnone hj hslot
        refine ⟨h.delivery, h.counters, fun j' hj' _ => ?_, fun hno => absurd hslot (hno j hj)⟩
        obtain rfl := Option.some.inj (hj.symm.trans hj')
        exact ⟨answers h, h.trace⟩
      · have hno : ∀ j, s.dev.trace = some j → j.slot.val ≠ target.toNat := fun j hj hslot => hheld ⟨j, hj, hslot⟩
        have h := cancelSlot_nothing hopen notify ht hnone hno
        exact ⟨h.delivery, h.counters, fun j hj hslot => absurd hslot (hno j hj), fun _ => ⟨answers h, h.trace⟩⟩
  case faults =>
    intro m
    obtain ⟨hhalted, hexec, hsweep, hdelivery, hbuffer, hrecord⟩ := postFound_aborts ⟨hopen, hm, htr⟩ notify ht hnone
    exact ⟨_, rfl, rfl, hhalted, hexec, hsweep, hdelivery, hbuffer, fun hempty => hrecord.trans (by rw [hempty]; rfl)⟩

end Sys2Proof.Machine
end

section
/-!
PROOFS. A part that is HALTED is quiet, and stays so through every command (R129, R130, R140, R141, R155, R167, R169). Outside
HALTED nothing is asked, an entry into HALTED leaves the part quiet, and within HALTED no unit has a sweep, a post, a trace or
a read to go on from.
-/
namespace Sys2Proof.Machine

open Sys2Proof

namespace Device.QuietWhenHalted

variable {d : Device}

/-! ### What the quiet rests on -/

/-- Outside HALTED nothing is asked. -/
theorem of_live (h : d.link.halted = false) : d.QuietWhenHalted := fun hh => nomatch h.symm.trans hh

/-- What concerns neither the link, the sweep, the prompt, the Executor nor the trace. -/
theorem of_same {d' : Device} (h : d.QuietWhenHalted) (hl : d'.link = d.link) (hs : d'.intake.sweep = d.intake.sweep)
    (hp : d'.intake.promptPending = d.intake.promptPending) (he : d'.exec = d.exec) (ht : d'.trace = d.trace) :
    d'.QuietWhenHalted := by
  rw [Device.QuietWhenHalted, hl, hs, hp, he, ht]; exact h

/-- An entry into HALTED leaves the part quiet (R169). -/
theorem of_halts {x : Device} (h : x.Halts d) : d.QuietWhenHalted :=
  fun _ => ⟨h.reads.1, h.reads.2, h.sweep.1, h.sweep.2, h.work.1, h.work.2⟩

/-- A part with a read, a sweep, a post or a trace is not HALTED. -/
theorem live (h : d.QuietWhenHalted) (hw : d.link.inFlight ≠ none ∨ d.link.waiting ≠ [] ∨ d.intake.sweep ≠ none
    ∨ d.exec ≠ none ∨ d.trace ≠ none) : d.link.halted = false := by
  by_contra hh
  obtain ⟨hread, hwaiting, hsweep, -, hexec, htrace⟩ := h (Bool.not_eq_false _ ▸ hh)
  simp [hread, hwaiting, hsweep, hexec, htrace] at hw

theorem live_of_sweep (h : d.QuietWhenHalted) {sw : Sweep} (hs : d.intake.sweep = some sw) : d.link.halted = false :=
  h.live (.inr (.inr (.inl (by simp [hs]))))

theorem live_of_exec (h : d.QuietWhenHalted) {p : CurrentPost} (he : d.exec = some p) : d.link.halted = false :=
  h.live (.inr (.inr (.inr (.inl (by simp [he])))))

theorem live_of_trace (h : d.QuietWhenHalted) {t : TraceJob} (ht : d.trace = some t) : d.link.halted = false :=
  h.live (.inr (.inr (.inr (.inr (by simp [ht])))))

/-- While HALTED slot writes alone can enter the buffer. -/
theorem slotsOnly (h : d.QuietWhenHalted) (hh : d.link.halted = true) : d.SlotsOnly := by
  obtain ⟨-, -, -, -, hexec, htrace⟩ := h hh
  exact ⟨.inl hh, fun t ht => (nomatch htrace.symm.trans ht), by simp [bulkGrant, hexec]⟩

/-- The Executor's post ends, or goes on. -/
theorem setExec (h : d.QuietWhenHalted) {p : Option CurrentPost} (hp : d.exec = none → p = none) :
    Device.QuietWhenHalted { d with exec := p } := by
  intro hh
  obtain ⟨hread, hwaiting, hsweep, hprompt, hexec, htrace⟩ := h hh
  exact ⟨hread, hwaiting, hsweep, hprompt, hp hexec, htrace⟩

theorem idle (h : d.QuietWhenHalted) : Device.QuietWhenHalted { d with exec := none } := h.setExec fun _ => rfl

/-- The trace ends. -/
theorem untraced (h : d.QuietWhenHalted) : Device.QuietWhenHalted { d with trace := none } := by
  intro hh
  obtain ⟨hread, hwaiting, hsweep, hprompt, hexec, -⟩ := h hh
  exact ⟨hread, hwaiting, hsweep, hprompt, hexec, rfl⟩

/-- The sweep ends, and prompt pending is cleared. -/
theorem sweepless (h : d.QuietWhenHalted) :
    Device.QuietWhenHalted { d with intake := { d.intake with sweep := none, promptPending := false } } := by
  intro hh
  obtain ⟨hread, hwaiting, -, -, hexec, htrace⟩ := h hh
  exact ⟨hread, hwaiting, rfl, rfl, hexec, htrace⟩

/-! ### EVENT, the map port and the Executor's post -/

theorem setEventMask (h : d.QuietWhenHalted) (event mask : BitVec 4) : (setEventMask event mask d).QuietWhenHalted := by
  obtain ⟨sent, msg, ht⟩ := testInterrupt_frame d.regs.condition
    { d with regs := { d.regs with event := event, mask := mask } }
  rw [Machine.setEventMask, ht]; exact h

theorem setCause (h : d.QuietWhenHalted) (c : Cause) : (setCause c d).QuietWhenHalted := h.setEventMask _ _

theorem sendPending (h : d.QuietWhenHalted) : (sendPending d).QuietWhenHalted := by
  unfold Machine.sendPending; split <;> exact h

theorem completePost (h : d.QuietWhenHalted) (st : Status) (dt : Detail) (fs : List Byte) :
    (completePost st dt fs d).QuietWhenHalted := by
  unfold Machine.completePost
  split
  · exact h
  · exact h.idle

theorem noteRead (h : d.QuietWhenHalted) (node : Nat) (r : NodeRead) (who : Requester) :
    (noteRead node r who d).QuietWhenHalted := by
  obtain ⟨map, sent, bits, msg, n, hn⟩ := noteRead_frame node r who d
  rw [hn]; exact h

theorem arbitrate (h : d.QuietWhenHalted) : (arbitrate d).QuietWhenHalted := by
  obtain ⟨m, hm⟩ := arbitrate_frame d
  rw [hm]; exact h

theorem requestExec (h : d.QuietWhenHalted) : (requestExec d).QuietWhenHalted := arbitrate (by exact h)

theorem requestSolver (h : d.QuietWhenHalted) : (requestSolver d).QuietWhenHalted := arbitrate (by exact h)

theorem answerScrub (h : d.QuietWhenHalted) (g : Grant) : (answerScrub g d).QuietWhenHalted :=
  noteRead (by exact h) _ _ _

theorem answerExec (h : d.QuietWhenHalted) (g : Grant) : (answerExec g d).QuietWhenHalted := by
  obtain ⟨map, sent, bits, msg, n, exec, ⟨hslot, -⟩, hn⟩ := answerExec_noted g d
  rw [hn]
  exact h.setExec fun he => Option.map_eq_none_iff.1 (hslot.trans (by rw [he]; rfl))

theorem setWork (h : d.QuietWhenHalted) (w : Work) : (setWork w d).QuietWhenHalted :=
  h.setExec fun he => by rw [he]; rfl

/-! ### The Delivery Unit -/

theorem placeIn (h : d.QuietWhenHalted) (c : Capture) (r : Record) : (placeIn c r d).QuietWhenHalted := by
  unfold Machine.placeIn settleCapture
  split <;> exact h

theorem joinHolding (h : d.QuietWhenHalted) (r : Record) : (joinHolding r d).QuietWhenHalted := by
  unfold Machine.joinHolding
  simp only
  split
  · exact setCause (by exact h) _
  · exact h

theorem evict (h : d.QuietWhenHalted) : (evict d).QuietWhenHalted := by
  unfold Machine.evict
  split
  · exact h
  · simp only
    split <;> exact setCause (by exact h) _

theorem deliver (h : d.QuietWhenHalted) (r : Record) : (deliver r d).QuietWhenHalted := by
  have happend : (appendHolding r d).QuietWhenHalted := by
    unfold appendHolding
    split
    · exact h.joinHolding r
    · split
      · exact setCause (by exact h) _
      · exact h.evict.joinHolding r
  unfold Machine.deliver
  split
  · split
    · exact placeIn (by exact h) _ _
    · exact happend
  · exact happend

/-! ### The Link Port -/

theorem raiseFault (cls : FaultClass) (site : Site) (slot : Option (Fin 32)) (d : Device) :
    (raiseFault cls site slot d).QuietWhenHalted := by
  obtain ⟨sent, msg, h⟩ := raiseFault_halts cls site slot d
  exact of_halts h

/-- While HALTED the settling moves slot writes alone; outside it leaves the part as live, or newly HALTED. -/
theorem settleLink (h : d.QuietWhenHalted) : (settleLink d).QuietWhenHalted := by
  cases hh : d.link.halted with
  | true =>
    obtain ⟨_, _, _, _, _, _, hs⟩ := settleLink_shifts (h.slotsOnly hh) (.inl hh)
    rw [hs]; exact h
  | false =>
    have hlive : (grants d).link.halted = false := (Device.Feeds.grants d).halted.trans hh
    unfold Machine.settleLink issueHead
    split
    · exact of_live hlive
    · split
      · exact of_live hlive
      · split
        · exact of_live hlive
        · exact raiseFault _ _ _ _

theorem pumpReads (h : d.QuietWhenHalted) : (pumpReads d).QuietWhenHalted := by
  unfold Machine.pumpReads
  split
  · exact h
  · split
    · exact h
    · next hw =>
      unfold issueRead
      split
      · exact of_live (h.live (.inr (.inl (by simp [hw]))))
      · exact raiseFault _ _ _ _

theorem requestRead (h : d.QuietWhenHalted) (r : ReadReq) : (requestRead r d).QuietWhenHalted := by
  unfold Machine.requestRead
  split
  · exact h
  · next hh => exact pumpReads (of_live (Bool.not_eq_true _ ▸ hh))

theorem endRead (h : d.QuietWhenHalted) : (endRead d).QuietWhenHalted := by
  intro hh
  obtain ⟨-, hrest⟩ := h hh
  exact ⟨rfl, hrest⟩

theorem afterRead (h : d.QuietWhenHalted) : (afterRead d).QuietWhenHalted := h.pumpReads.settleLink

/-! ### The Scan Engine and the Channel Tracker -/

theorem produce (h : d.QuietWhenHalted) (r : Record) : (produce r d).QuietWhenHalted :=
  (deliver (by exact h) r).settleLink

/-- A trace goes on only where one is held. -/
theorem receiveTraceFrame (h : d.QuietWhenHalted) (ch : Channel) (f : FrameResults) (ev : RecEvent) (st : TrackState)
    (pressure : Nat) : (receiveTraceFrame ch f ev st pressure d).QuietWhenHalted := by
  unfold Machine.receiveTraceFrame
  split
  · exact h
  · next t ht =>
    have hl := h.live_of_trace ht
    split
    · exact h
    · simp only
      split
      · split
        · exact h
        · split <;> exact of_live hl
      · split <;> exact of_live hl

theorem traceChannelOff (h : d.QuietWhenHalted) (ch : Channel) : (traceChannelOff ch d).QuietWhenHalted := by
  unfold Machine.traceChannelOff
  split
  · exact h
  · next t ht =>
    split
    · exact h
    · split <;> exact of_live (h.live_of_trace ht)

theorem finishStep (h : d.QuietWhenHalted) (ch : Channel) (f : FrameResults) (prox : Nat) (ev : RecEvent)
    (pressure : Nat) : (finishStep ch f prox ev pressure d).QuietWhenHalted :=
  (receiveTraceFrame (by exact h) ch f ev _ pressure).settleLink

theorem finishJob (h : d.QuietWhenHalted) (j : SolverJob) (noMap : Bool) : (finishJob j noMap d).QuietWhenHalted :=
  (produce (by exact h) _).finishStep _ _ _ _ _

theorem stepChannel (h : d.QuietWhenHalted) (ch : Channel) (f : FrameResults) :
    (stepChannel ch f d).1.QuietWhenHalted := by
  unfold Machine.stepChannel
  extract_lets c0 c1 counted res c2
  have hset : ∀ c, (counted.setCtx ch c).QuietWhenHalted := by
    intro c
    simp only [counted]
    split <;> exact h
  clear_value counted res c2
  split
  · dsimp only
    exact (hset _).finishStep _ _ _ _ _
  · have hout : (produceProxOut ch f.timeTag f.slipped (counted.setCtx ch c2)).QuietWhenHalted := produce (hset _) _
    dsimp only
    exact finishStep (by exact hout) _ _ _ _ _
  · split
    · dsimp only
      exact (hset _).finishStep _ _ _ _ _
    · extract_lets job begun
      split
      · dsimp only
        exact (hset _).finishJob _ _
      · exact hset _

theorem toIdle (h : d.QuietWhenHalted) (ch : Channel) : (toIdle ch d).QuietWhenHalted := by
  unfold Machine.toIdle
  split
  · exact h
  · exact (traceChannelOff (by exact h) ch).settleLink

theorem leaveTracking (h : d.QuietWhenHalted) (ch : Channel) (tag : Micros) (slip : Bool) :
    (leaveTracking ch tag slip d).QuietWhenHalted := by
  unfold Machine.leaveTracking
  split
  · exact h.produce _
  · exact h

theorem disableChannel (h : d.QuietWhenHalted) (ch : Channel) (want : Bool) (tag : Micros) :
    (disableChannel ch want tag d).QuietWhenHalted := by
  unfold Machine.disableChannel
  split
  · exact h
  · exact (h.leaveTracking _ _ _).toIdle _

theorem applySetup (h : d.QuietWhenHalted) (slot : Fin 32) (p : ScanSetupParams) (tag : Micros) (running : Bool) :
    (applySetup slot p tag running d).QuietWhenHalted := by
  have hset : (applySettings p tag running d).QuietWhenHalted := by
    refine (disableChannel ?_ .a _ tag).disableChannel .b _ tag
    split <;> exact h
  exact settleLink hset

theorem applyWaiting (h : d.QuietWhenHalted) (tag : Micros) (running : Bool) :
    (applyWaiting tag running d).QuietWhenHalted := by
  unfold Machine.applyWaiting
  split
  · exact h.idle.applySetup _ _ _ _
  · exact h

theorem startFrame (h : d.QuietWhenHalted) : (startFrame d).QuietWhenHalted := by
  rw [startFrame_eq]
  exact h.applyWaiting d.clock true

theorem stopEngine (h : d.QuietWhenHalted) (f : Frame) : (stopEngine f d).QuietWhenHalted := by
  have hleft := ((h.leaveTracking .a f.timeTag f.slipped).leaveTracking .b f.timeTag f.slipped)
  exact applyWaiting (by exact (hleft.toIdle .a).toIdle .b) _ _

theorem runSteps (todo : List Channel) (f : Frame) (realign : Bool) :
    ∀ {d : Device}, d.QuietWhenHalted → (runSteps todo f realign d).1.QuietWhenHalted := by
  induction todo with
  | nil => exact id
  | cons ch rest ih =>
    intro d h
    unfold Machine.runSteps
    split
    · exact ih h
    · simp only
      split
      · exact ih (h.stepChannel _ _)
      · exact requestSolver (by exact h.stepChannel _ _)

theorem closeBoundary (h : d.QuietWhenHalted) (f : Frame) (realign : Bool) :
    (closeBoundary f realign d).QuietWhenHalted := by
  unfold Machine.closeBoundary
  extract_lets run counted next
  have hnext : next.QuietWhenHalted := by
    simp only [next]
    split
    · exact startFrame (by exact h)
    · exact stopEngine (by exact h) f
  clear_value next
  split
  · split <;> exact hnext
  · exact hnext

theorem goBoundary (h : d.QuietWhenHalted) (todo : List Channel) (f : Frame) (realign : Bool) :
    (goBoundary todo f realign d).QuietWhenHalted := by
  unfold Machine.goBoundary
  simp only
  split
  · exact (runSteps todo f realign h).closeBoundary f realign
  · exact runSteps todo f realign h

theorem takeArrival (h : d.QuietWhenHalted) (t : Nat) : (takeArrival t d).QuietWhenHalted := by
  unfold Machine.takeArrival
  split
  · split
    · exact goBoundary (by exact h) _ _ _
    · rw [measureArrival_eq]; exact h
  · exact h

theorem takeArrivals (ts : List Nat) :
    ∀ (base : Nat) {d : Device}, d.QuietWhenHalted → (takeArrivals base ts d).QuietWhenHalted := by
  induction ts with
  | nil => exact fun _ _ h => h
  | cons t ts ih =>
    intro base d h
    unfold Machine.takeArrivals
    simp only
    split
    · exact h.takeArrival _
    · exact ih _ (h.takeArrival _)

theorem afterBoundary (h : d.QuietWhenHalted) : (afterBoundary d).QuietWhenHalted := by
  unfold Machine.afterBoundary
  split
  · exact h
  · exact takeArrivals _ _ (by exact h)

/-! ### Sweeps -/

/-- A sweep starts outside HALTED alone (R129, R130). -/
theorem startSweep (hl : d.link.halted = false) : (startSweep d).QuietWhenHalted := by
  unfold Machine.startSweep
  simp only
  split
  · exact requestRead (by exact of_live hl) _
  · exact of_live hl

theorem endSweep (h : d.QuietWhenHalted) : (endSweep d).QuietWhenHalted := by
  unfold Machine.endSweep
  simp only
  split
  · next hs => exact startSweep (by simp_all [Device.canSweep])
  · exact h.sweepless

theorem sweepDone (h : d.QuietWhenHalted) : (sweepDone d).QuietWhenHalted := by
  unfold Machine.sweepDone
  split
  · exact h
  · exact h.endSweep

theorem sweepEntryLeft (h : d.QuietWhenHalted) : (sweepEntryLeft d).QuietWhenHalted := by
  unfold Machine.sweepEntryLeft
  split
  · next sw hs =>
    have hl := h.live_of_sweep hs
    split
    · split
      · exact requestRead (by exact of_live hl) _
      · exact of_live hl
    · exact h
  · exact h

theorem rejectSlot (h : d.QuietWhenHalted) (m : SlotMark) (dt : Detail) : (rejectSlot m dt d).QuietWhenHalted :=
  settleLink (by exact h)

/-- A walk goes on only with a sweep in progress. -/
theorem walk (slots : List (Fin 32)) : ∀ {d : Device}, d.QuietWhenHalted → (walk slots d).QuietWhenHalted := by
  induction slots with
  | nil => exact sweepDone
  | cons slot rest ih =>
    intro d h
    unfold Machine.walk
    split
    · exact h
    · next sw hs =>
      split
      · exact h.endSweep
      · split
        · exact ih h
        · simp only
          split
          · exact ih (h.rejectSlot _ _)
          · exact (h.rejectSlot _ _).sweepDone
        · exact requestRead (by exact of_live (h.live_of_sweep hs)) _

/-! ### The posts, as they begin outside HALTED and go on -/

theorem finishMapLoad (h : d.QuietWhenHalted) (w : MapLoadWork) : (finishMapLoad w d).QuietWhenHalted := by
  refine completePost ?_ _ _ _
  split <;> exact h

section
variable (hl : d.link.halted = false)
include hl

theorem beginMapLoad (slot : Fin 32) (p : MapParams) : (beginMapLoad slot p d).QuietWhenHalted := by
  unfold Machine.beginMapLoad
  split
  · exact of_live hl
  · rw [clearMap_if]
    simp only
    split
    · exact finishMapLoad (by exact of_live hl) _
    · exact requestRead (by exact of_live hl) _

theorem beginMapRead (slot : Fin 32) (p : MapParams) : (beginMapRead slot p d).QuietWhenHalted := by
  unfold Machine.beginMapRead
  split
  · exact of_live hl
  · exact requestExec (by exact of_live hl)

theorem beginProfile (slot : Fin 32) (p : ProfileParams) : (beginProfile slot p d).QuietWhenHalted := by
  have hread : ∀ isDefault, (startBlockRead slot isDefault p d).QuietWhenHalted := fun _ => requestRead (by exact of_live hl) _
  unfold Machine.beginProfile
  split
  · unfold beginProfileLoad
    split
    · exact of_live hl
    · split
      · exact of_live hl
      · split
        · exact of_live hl
        · exact hread false
  · unfold beginProfileRemove
    split
    · exact of_live hl
    · split <;> exact of_live hl
  · exact of_live hl
  · unfold beginProfileDefault
    split
    · exact of_live hl
    · exact hread true
  · exact of_live hl

/-- The two requests of a CANCEL by slot: after an entry into HALTED between them there is no second (R143). -/
theorem cancelBySlot (slot target : Fin 32) : (cancelBySlot slot target d).QuietWhenHalted := by
  unfold Machine.cancelBySlot
  split
  · exact of_live hl
  · have hs : (Machine.settleLink (setCurrent slot (.cancelSlot target) d)).QuietWhenHalted := settleLink (of_live hl)
    unfold cancelSecond
    split
    · unfold cancelTraceAt
      split
      · split
        · exact hs.idle.untraced
        · exact hs.idle
      · exact hs.idle
    · exact hs

theorem beginCancel (slot : Fin 32) (p : CancelParams) : (beginCancel slot p d).QuietWhenHalted := by
  have heach : ∀ (caps : List Capture) {d : Device}, d.QuietWhenHalted → (cancelEach caps d).QuietWhenHalted := by
    intro caps
    induction caps with
    | nil => exact id
    | cons c rest ih => exact fun h => ih (by exact h)
  unfold Machine.beginCancel
  split
  · split
    · exact heach _ (of_live hl)
    · exact of_live hl
  · unfold cancelHeldTrace
    split <;> exact of_live hl
  · split
    · exact cancelBySlot hl _ _
    · exact of_live hl
  · exact of_live hl

theorem beginScanSetup (slot : Fin 32) (p : ScanSetupParams) : (beginScanSetup slot p d).QuietWhenHalted := by
  unfold Machine.beginScanSetup
  split
  · exact of_live hl
  · split
    · exact (of_live hl).applySetup _ _ _ _
    · exact of_live hl

theorem beginPost (slot : Fin 32) (p : Post) : (beginPost slot p d).QuietWhenHalted := by
  cases p with
  | profile q => exact beginProfile hl slot q
  | mapLoad q => exact beginMapLoad hl slot q
  | mapRead q => exact beginMapRead hl slot q
  | scanSetup q => exact beginScanSetup hl slot q
  | counters q =>
    show (beginCounters slot q d).QuietWhenHalted
    unfold beginCounters
    split <;> exact of_live hl
  | cancel q => exact beginCancel hl slot q
  | clockSet v => exact of_live hl
  | capture q => exact of_live hl
  | trace q => exact of_live hl

/-- A slot is taken outside HALTED: the grants of its TAKEN write enter none. -/
theorem takeSlot {handOn : Device → Device} (hf : ∀ {x : Device}, x.link.halted = false → (handOn x).QuietWhenHalted)
    (m : SlotMark) : (takeSlot m handOn d).QuietWhenHalted :=
  settleLink (by exact hf ((Device.Feeds.grants _).halted.trans hl))

theorem openCapture (slot : Fin 32) (p : CaptureParams) : (openCapture slot p d).QuietWhenHalted :=
  of_live ((Device.Feeds.drainWalk _).halted.trans hl)

theorem handlePost (m : SlotMark) (p : Post) : (handlePost m p d).QuietWhenHalted := by
  unfold Machine.handlePost
  split
  · unfold handleCapture
    split
    · exact (of_live hl).rejectSlot _ _
    · exact takeSlot hl (fun hx => openCapture hx _ _) m
  · unfold handleTrace
    split
    · exact (of_live hl).rejectSlot _ _
    · exact takeSlot (handOn := armTrace m.slot _) hl (fun hx => of_live hx) m
  · exact takeSlot hl (fun hx => beginPost hx _ _) m

theorem settleBody {d' : Device} {m : SlotMark} {p : Option Post} (hs : settleBody m p d = some d') :
    d'.QuietWhenHalted := by
  unfold Machine.settleBody at hs
  split at hs
  · cases hs
  · split at hs
    · unfold settlePost at hs
      split at hs
      · cases hs
      · split at hs
        · cases hs; exact (of_live hl).rejectSlot _ _
        · cases hs; exact handlePost hl _ _
    · cases hs; exact (of_live hl).rejectSlot _ _

end

/-- A body settles a slot only with a sweep in progress. -/
theorem bodyComplete (h : d.QuietWhenHalted) (post : Byte → Option Post) (notify : Bool) :
    (bodyComplete post notify d).QuietWhenHalted := by
  unfold Machine.bodyComplete
  split
  · exact h
  · next sw hsw =>
    split
    · simp only
      unfold sweepGoesOn
      split
      · exact walk _ h
      · next hs =>
        have hsettled := settleBody (h.live_of_sweep hsw) hs
        split
        · exact walk _ hsettled
        · exact hsettled.sweepDone
    · exact h

theorem postFound (h : d.QuietWhenHalted) (slot : Fin 32) (notify : Bool) (p : Post) :
    (postFound slot notify p d).QuietWhenHalted := by
  unfold Machine.postFound
  split
  · exact (h.endRead.bodyComplete _ _).afterRead
  · exact h

theorem continueMapLoad (h : d.QuietWhenHalted) : (continueMapLoad d).QuietWhenHalted := by
  unfold Machine.continueMapLoad
  split
  · split
    · exact (h.setWork _).requestExec
    · split
      · exact h.finishMapLoad _
      · exact h.requestRead _
  · exact h

theorem continueMapRead (h : d.QuietWhenHalted) : (continueMapRead d).QuietWhenHalted := by
  unfold Machine.continueMapRead
  split
  · split
    · exact h.arbitrate
    · exact h.requestExec
  · exact h

theorem profileBlock (h : d.QuietWhenHalted) (isDefault : Bool) (key : Half) (bytes : List Byte) :
    (profileBlock isDefault key bytes d).QuietWhenHalted := by
  unfold Machine.profileBlock
  split
  · exact h.completePost _ _ _
  · unfold applyProfile
    split <;> exact completePost (by exact h) _ _ _

/-! ### CONTROL and the other registers -/

theorem runEdge (h : d.QuietWhenHalted) (was : Bool) : (runEdge was d).QuietWhenHalted := by
  unfold Machine.runEdge
  split
  · exact startFrame (by exact h)
  · exact h

theorem intakeEdge (h : d.QuietWhenHalted) (was : Bool) : (intakeEdge was d).QuietWhenHalted := by
  unfold Machine.intakeEdge
  split
  · cases hs : d.intake.sweep with
    | none =>
      simp only [sweepIntakeOff, hs]
      exact h.sweepless
    | some sw =>
      have hl := h.live_of_sweep hs
      simp only [sweepIntakeOff, hs]
      split
      · exact of_live hl
      · split <;> exact of_live hl
      · exact of_live hl
  · exact h

/-- RESUME leaves HALTED before it settles the link (R171). -/
theorem resumeAct (h : d.QuietWhenHalted) : (resumeAct d).QuietWhenHalted := by
  unfold Machine.resumeAct
  split
  · exact settleLink (of_live (Device.Feeds.drainWalk _).halted)
  · exact h

theorem controlWrite (h : d.QuietWhenHalted) (w : BitVec 32) : (controlWrite w d).QuietWhenHalted := by
  have hfields : (controlFields w d).QuietWhenHalted := setEventMask (by exact h) _ _
  have hedges := (hfields.runEdge d.regs.run).intakeEdge d.regs.intake
  unfold Machine.controlWrite
  extract_lets wasRun wasIntake edged
  split
  · exact hedges.resumeAct
  · exact hedges

theorem promptWrite (h : d.QuietWhenHalted) : (promptWrite d).QuietWhenHalted := by
  unfold Machine.promptWrite
  split
  · next hs =>
    have hl : d.link.halted = false := by simp_all [Device.canSweep]
    split
    · exact of_live hl
    · exact startSweep hl
  · exact h

theorem baseWrite (h : d.QuietWhenHalted) (t : TableBaseAccess) : (baseWrite t d).QuietWhenHalted := by
  unfold Machine.baseWrite; split <;> exact h

/-- A reset leaves HALTED (R172). -/
theorem softReset (d : Device) : (softReset d).QuietWhenHalted := of_live rfl

theorem writeAccess (h : d.QuietWhenHalted) (offset width : Nat) (v : BitVec 64) :
    (writeAccess offset width v d).QuietWhenHalted := by
  unfold Machine.writeAccess
  split
  · exact h.baseWrite _
  · split
    · unfold writeWord
      split
      · unfold controlAny
        split
        · exact softReset d
        · exact h.controlWrite _
      · exact h.setEventMask _ _
      · exact h.promptWrite
      · exact h
      · exact h
      · exact h
      · exact h.baseWrite _
      · exact h.baseWrite _
      · exact h
    · exact h

/-! ### Events of the Scan Engine and of the map port -/

theorem frameExpiry (h : d.QuietWhenHalted) : (frameExpiry d).QuietWhenHalted := by
  unfold Machine.frameExpiry
  split
  · split
    · exact (goBoundary (by exact h) _ _ _).afterBoundary.settleLink
    · exact h
  · exact h

theorem windowDone (h : d.QuietWhenHalted) (ch : Channel) (res : WindowResult) :
    (windowDone ch res d).QuietWhenHalted := by
  unfold Machine.windowDone; split <;> exact h

theorem solverAnswered (h : d.QuietWhenHalted) (g : Grant) (b : Boundary) : (solverAnswered g b d).QuietWhenHalted := by
  have hn : (endGrant (Machine.noteRead g.node g.word.check .solver d)).QuietWhenHalted := h.noteRead _ _ _
  unfold Machine.solverAnswered
  extract_lets r j noted
  split
  · exact requestSolver (by exact hn)
  · exact ((hn.arbitrate.finishJob _ _).goBoundary _ _ _).afterBoundary.settleLink

theorem solverRead (h : d.QuietWhenHalted) : (solverRead d).QuietWhenHalted := by
  unfold Machine.solverRead
  split
  · split
    · split
      · exact h.solverAnswered _ _
      · exact h
    · exact h
  · exact h

theorem syncEdge (h : d.QuietWhenHalted) (e : Edge) : (syncEdge e d).QuietWhenHalted := by
  unfold Machine.syncEdge
  split
  · split
    · exact (h.takeArrival _).afterBoundary.settleLink
    · exact h
    · exact h
  · exact h

theorem lossExpiry (h : d.QuietWhenHalted) : (lossExpiry d).QuietWhenHalted := by
  unfold Machine.lossExpiry; split <;> exact h

theorem scrubExpiry (h : d.QuietWhenHalted) : (scrubExpiry d).QuietWhenHalted := by
  unfold Machine.scrubExpiry scrubRequest
  split
  · split
    · exact arbitrate (h.of_same rfl rfl rfl rfl rfl)
    · exact h.of_same rfl rfl rfl rfl rfl
  · exact h

theorem scrubGrant (h : d.QuietWhenHalted) : (scrubGrant d).QuietWhenHalted := by
  unfold Machine.scrubGrant
  split
  · split
    · exact (h.answerScrub _).arbitrate
    · exact h
  · exact h

theorem loadGrant (h : d.QuietWhenHalted) : (loadGrant d).QuietWhenHalted := by
  unfold Machine.loadGrant
  split
  · split
    · split
      · exact (h.answerExec _).continueMapLoad.arbitrate.settleLink
      · exact h
    · exact h
  · exact h

theorem readGrant (h : d.QuietWhenHalted) : (readGrant d).QuietWhenHalted := by
  unfold Machine.readGrant
  split
  · split
    · split
      · exact (h.answerExec _).continueMapRead.arbitrate.settleLink
      · exact h
    · exact h
  · exact h

/-- Time starts no read: a read in flight alone ages (R159). -/
theorem passTime (h : d.QuietWhenHalted) (us : Nat) : (passTime us d).QuietWhenHalted := by
  unfold Machine.passTime ageCaptures
  split
  · intro hh
    obtain ⟨hread, hrest⟩ := h hh
    exact ⟨by simp [LinkPort.age, hread], hrest⟩
  · next hh => exact of_live (Bool.not_eq_true _ ▸ hh)

/-! ### Events of the Post Intake and of the Link Port -/

theorem sweepExpiry (h : d.QuietWhenHalted) : (sweepExpiry d).QuietWhenHalted := by
  unfold Machine.sweepExpiry
  split
  · simp only
    split
    · next hs => exact startSweep (by simp_all [Device.canSweep])
    · exact h.of_same rfl rfl rfl rfl rfl
  · exact h

theorem stripArrived (h : d.QuietWhenHalted) (bytes : List Byte) : (stripArrived bytes d).QuietWhenHalted := by
  unfold Machine.stripArrived stripComplete
  split
  · refine afterRead ?_
    split
    · exact h.endRead
    · next sw hs => exact walk _ (of_live (h.live_of_sweep hs))
  · exact h

theorem bodyArrived (h : d.QuietWhenHalted) (bytes : List Byte) : (bodyArrived bytes d).QuietWhenHalted := by
  unfold Machine.bodyArrived
  split
  · exact (h.endRead.bodyComplete _ _).afterRead
  · exact h

theorem blockArrived (h : d.QuietWhenHalted) (bytes : List Byte) : (blockArrived bytes d).QuietWhenHalted := by
  unfold Machine.blockArrived
  split
  · split
    · exact (h.endRead.profileBlock _ _ bytes).afterRead
    · exact h
  · exact h

theorem pieceArrived (h : d.QuietWhenHalted) (bytes : List Byte) : (pieceArrived bytes d).QuietWhenHalted := by
  unfold Machine.pieceArrived
  split
  · split
    · exact (h.endRead.setWork _).requestExec.afterRead
    · exact h
  · exact h

theorem idleExpiry (h : d.QuietWhenHalted) (slot : Fin 32) : (idleExpiry slot d).QuietWhenHalted := by
  unfold Machine.idleExpiry
  split
  · split
    · exact settleLink (by exact h)
    · exact h
  · exact h

theorem acceptHead (h : d.QuietWhenHalted) : (acceptHead d).QuietWhenHalted := by
  unfold Machine.acceptHead
  split
  · exact h
  · next w rest _ =>
    have hdone : (doneCause w (popHead w rest d)).QuietWhenHalted := by
      unfold doneCause
      split
      · exact setCause (by exact h) _
      · exact h
    split
    · exact hdone.sweepEntryLeft.settleLink
    · exact h

theorem readFault (h : d.QuietWhenHalted) (cls : FaultClass) : (readFault cls d).QuietWhenHalted := by
  unfold Machine.readFault
  split
  · exact raiseFault _ _ _ _
  · exact h

theorem readTimerExpiry (h : d.QuietWhenHalted) : (readTimerExpiry d).QuietWhenHalted := by
  unfold Machine.readTimerExpiry
  split
  · split
    · exact (h.readFault _).settleLink
    · exact h
  · exact h

theorem linkFalls (h : d.QuietWhenHalted) : (linkFalls d).QuietWhenHalted := by
  unfold Machine.linkFalls downFault
  split
  · split
    · exact h
    · split
      · exact readFault (by exact h) _
      · split
        · exact h
        · exact raiseFault _ _ _ _
  · exact h

/-! ### Every command -/

theorem of_effect {s t : State} {f : Device → Device} (h : (f s.dev).QuietWhenHalted) (ht : effect f s = .next t) :
    t.dev.QuietWhenHalted := by
  obtain rfl := Host.Outcome.next.inj ht
  exact h

/-- Every command keeps a HALTED part quiet. -/
theorem exec {s t : State} (h : s.dev.QuietWhenHalted) (i : Instr) (ht : Machine.exec i s = .next t) :
    t.dev.QuietWhenHalted := by
  cases i with
  | powerOn word inputs => exact of_effect (f := powerOnReset word inputs) (of_live rfl) ht
  | linkReset word inputs => exact of_effect (f := linkReset word inputs) (of_live rfl) ht
  | softReset w => exact of_effect (softReset s.dev) ht
  | runSet w => exact of_effect (h.controlWrite _) ht
  | runClear w => exact of_effect (h.controlWrite _) ht
  | intakeSet w => exact of_effect (h.controlWrite _) ht
  | intakeClear w => exact of_effect (h.controlWrite _) ht
  | batch w => exact of_effect (h.controlWrite _) ht
  | maskWrite w => exact of_effect (h.controlWrite _) ht
  | resume w => exact of_effect (h.controlWrite _) ht
  | prompt v => exact of_effect h.promptWrite ht
  | eventWrite v => exact of_effect (f := eventClear v) (h.setEventMask _ _) ht
  | faultWrite word v => exact of_effect (f := faultClear) h ht
  | maplogWrite v => exact of_effect (f := maplogClear) h ht
  | tableBaseWrite a => exact of_effect (h.baseWrite a) ht
  | discardedRegisterWrite offset width v => exact of_effect (h.writeAccess _ _ v) ht
  | frameBoundary => exact of_effect h.frameExpiry ht
  | windowResult ch res => exact of_effect (h.windowDone ch res) ht
  | solverNodeRead => exact of_effect h.solverRead ht
  | idleTimeout slot => exact of_effect (h.idleExpiry slot) ht
  | syncArrival edge => exact of_effect (h.syncEdge edge) ht
  | lossTimerExpiry => exact of_effect h.lossExpiry ht
  | scrubTimerExpiry => exact of_effect h.scrubExpiry ht
  | scrub => exact of_effect h.scrubGrant ht
  | mapLoadNodeWrite => exact of_effect h.loadGrant ht
  | mapReadNodeRead => exact of_effect h.readGrant ht
  | sweepTimerExpiry => exact of_effect h.sweepExpiry ht
  | stripReadComplete bytes => exact of_effect (h.stripArrived bytes) ht
  | bodyReadComplete bytes => exact of_effect (h.bodyArrived bytes) ht
  | capture slot notify p => exact of_effect (h.postFound slot notify _) ht
  | trace slot notify p => exact of_effect (h.postFound slot notify _) ht
  | scanSetup slot notify p => exact of_effect (h.postFound slot notify _) ht
  | profileLoad slot notify key source => exact of_effect (h.postFound slot notify _) ht
  | profileRemove slot notify key => exact of_effect (h.postFound slot notify _) ht
  | profileClear slot notify => exact of_effect (h.postFound slot notify _) ht
  | profileDefault slot notify key source => exact of_effect (h.postFound slot notify _) ht
  | profileBlockReadComplete bytes => exact of_effect (h.blockArrived bytes) ht
  | mapLoad slot notify p => exact of_effect (h.postFound slot notify _) ht
  | mapPieceReadComplete bytes => exact of_effect (h.pieceArrived bytes) ht
  | mapRead slot notify p => exact of_effect (h.postFound slot notify _) ht
  | counters slot notify p => exact of_effect (h.postFound slot notify _) ht
  | cancelMask slot notify mask => exact of_effect (h.postFound slot notify _) ht
  | cancelTrace slot notify => exact of_effect (h.postFound slot notify _) ht
  | cancelSlot slot notify target => exact of_effect (h.postFound slot notify _) ht
  | clockSet slot notify value => exact of_effect (h.postFound slot notify _) ht
  | writeAccepted => exact of_effect h.acceptHead ht
  | readError => exact of_effect (f := readFails .readError) (h.readFault _).settleLink ht
  | readTimeout => exact of_effect h.readTimerExpiry ht
  | linkDown => exact of_effect h.linkFalls ht
  | linkUp => exact of_effect (f := linkRises) (sendPending (by exact h)).settleLink ht
  | busMasteringChange on => exact of_effect (f := masteringChange on) (sendPending (by exact h)).settleLink ht
  | mapBitFlip node bit => exact of_effect (f := flipBit node bit) h ht
  | strokeClockTick us => exact of_effect (h.passTime us) ht
  | staleReadCompletion bytes => exact of_effect (f := staleData bytes) h ht
  | messageInterruptEnableChange on addr data => exact of_effect (f := msiChange on addr data) (sendPending (by exact h)) ht

end Device.QuietWhenHalted

/-- Settles O59: a command that finds the part live leaves it live, or quiet at an entry into HALTED; one that finds it HALTED
has no read, sweep, post or trace to go on from. -/
theorem haltedStaysQuiet : Obligations.HaltedStaysQuiet := by
  intro s t ht h
  unfold step at ht
  split at ht
  · obtain rfl := Host.Outcome.next.inj ht
    exact h
  · next c rest _ => exact Device.QuietWhenHalted.exec (s := { s with pending := rest }) h c ht

end Sys2Proof.Machine
end

section
/-!
PROOFS. INTAKE written 0 (R130, R135, R176): prompt pending is cleared, and a sweep in progress ends at once or at its next
slot boundary.
-/
namespace Sys2Proof.Machine

open Sys2Proof

/-- INTAKE_CLEAR with a word its row allows is that CONTROL write. -/
theorem exec_intakeClear {w : BitVec 32} (h : (Instr.intakeClear w).wf = true) (s : State) :
    Sys2Proof.Machine.exec (.intakeClear w) s = .next (onDevice (controlWrite w) s) := by
  simp only [Instr.wf, Bool.and_eq_true, Bool.not_eq_true'] at h
  show Host.Outcome.next (onDevice (controlWrite (withBit w 1 false)) s) = _
  rw [withBit_eq (by decide) h.1 h.2]

/-! ### What ends a sweep (R135) -/

section
variable {d : Device} {sw : Sweep}

/-- Only the sweep and the reads waiting are touched. -/
theorem sweepIntakeOff_frame (d : Device) : ∃ sweep waiting, sweepIntakeOff d = { d with
    intake := { d.intake with sweep := sweep }, link := { d.link with waiting := waiting } } := by
  unfold sweepIntakeOff
  split
  · exact ⟨d.intake.sweep, d.link.waiting, rfl⟩
  · split
    · exact ⟨none, d.link.waiting, rfl⟩
    · split
      · exact ⟨none, _, rfl⟩
      · exact ⟨some _, d.link.waiting, rfl⟩
    · exact ⟨some _, d.link.waiting, rfl⟩

theorem sweepIntakeOff_none (hs : d.intake.sweep = none) : sweepIntakeOff d = d := by simp only [sweepIntakeOff, hs]

/-- A sweep that waits for strip writes ends. -/
theorem sweepIntakeOff_waitStrips {n : Nat} (hs : d.intake.sweep = some sw) (hp : sw.phase = .waitStrips n) :
    sweepIntakeOff d = setSweep none d := by simp only [sweepIntakeOff, hs, hp]

theorem stripWaits_iff (l : LinkPort) : l.stripWaits = true ↔ ∃ r ∈ l.waiting, r.site = .sweep := by
  simp [LinkPort.stripWaits]

/-- A sweep whose strip read is not yet issued ends, that read withdrawn. -/
theorem sweepIntakeOff_unissued (hs : d.intake.sweep = some sw) (hp : sw.phase = .strip)
    (hw : ∃ r ∈ d.link.waiting, r.site = .sweep) : sweepIntakeOff d = setSweep none { d with
      link := { d.link with waiting := d.link.waiting.filter fun r => !(r.site == .sweep) } } := by
  simp only [sweepIntakeOff, hs, hp]
  exact if_pos ((stripWaits_iff d.link).2 hw)

/-- A sweep whose strip read is issued is marked to end. -/
theorem sweepIntakeOff_issued (hs : d.intake.sweep = some sw) (hp : sw.phase = .strip)
    (hw : ∀ r ∈ d.link.waiting, r.site ≠ .sweep) : sweepIntakeOff d = setSweep (some { sw with ending := true }) d := by
  simp only [sweepIntakeOff, hs, hp]
  refine if_neg fun hwaits => ?_
  obtain ⟨r, hr, hsite⟩ := (stripWaits_iff d.link).1 hwaits
  exact hw r hr hsite

/-- A sweep at a slot's body is marked to end, whether the read is issued or not (log entry 17). -/
theorem sweepIntakeOff_body {slot : Fin 32} {rest : List (Fin 32)} (hs : d.intake.sweep = some sw)
    (hp : sw.phase = .body slot rest) : sweepIntakeOff d = setSweep (some { sw with ending := true }) d := by
  simp only [sweepIntakeOff, hs, hp]

end

/-- A CONTROL write that clears INTAKE, without RESUME and without starting the engine: the fields and the interrupt test,
prompt pending cleared, and the sweep in progress ended or marked. -/
theorem controlWrite_intakeOff {w : BitVec 32} {d : Device} (h1 : w.getLsbD 1 = false) (h3 : w.getLsbD 3 = false)
    (hrun : w.getLsbD 0 = true → d.regs.run = true) (hi : d.regs.intake = true) : ∃ sent msg, controlWrite w d
      = sweepIntakeOff { d.withControl w sent msg with intake := { d.intake with promptPending := false } } := by
  obtain ⟨sent, msg, hfields⟩ := controlFields_frame w d
  have hedge : runEdge d.regs.run (d.withControl w sent msg) = d.withControl w sent msg := runEdge_none (.inl hrun)
  refine ⟨sent, msg, ?_⟩
  simp only [controlWrite, hfields, hedge, h3, Bool.false_eq_true, if_false]
  have hoff : (d.withControl w sent msg).regs.intake = false := h1
  exact if_pos (by simp [hoff, hi])

/-- Settles O9. -/
theorem intakeClearEndsSweep : Obligations.IntakeClearEndsSweep := by
  intro s w hwf h3 hrun hi
  have h1 : w.getLsbD 1 = false := by
    simp only [Instr.wf, Bool.and_eq_true, Bool.not_eq_true'] at hwf; exact hwf.1
  obtain ⟨sent, msg, hwrite⟩ := controlWrite_intakeOff h1 h3 hrun hi
  let d : Device := { s.dev.withControl w sent msg with intake := { s.dev.intake with promptPending := false } }
  have hexec : Sys2Proof.Machine.exec (.intakeClear w) s = .next { s with dev := sweepIntakeOff d } :=
    (exec_intakeClear hwf s).trans (congrArg (fun x => Host.Outcome.next { s with dev := x }) hwrite)
  obtain ⟨sweep, waiting, hoff⟩ := sweepIntakeOff_frame d
  have hsweep : sweep = (sweepIntakeOff d).intake.sweep := by rw [hoff]
  have hwaiting : waiting = (sweepIntakeOff d).link.waiting := by rw [hoff]
  rw [hoff] at hexec
  refine ⟨_, hexec, rfl, h1, rfl, fun hs => ?none, fun sw n hs hp => ?waits, fun sw hs hp hw => ?unissued,
    fun sw hs hp hw => ?issued, fun sw slot rest hs hp => ?body, rfl, rfl, rfl, rfl, rfl, rfl, rfl, rfl, rfl, rfl, rfl, rfl⟩
  case none => exact hsweep.trans ((congrArg (·.intake.sweep) (sweepIntakeOff_none (d := d) hs)).trans hs)
  case waits => exact hsweep.trans (congrArg (·.intake.sweep) (sweepIntakeOff_waitStrips (d := d) hs hp))
  case unissued =>
    have h := sweepIntakeOff_unissued (d := d) hs hp hw
    rw [h] at hsweep hwaiting
    refine ⟨hsweep, fun r => ?_⟩
    show r ∈ waiting ↔ _
    rw [hwaiting]
    simp [d, Device.withControl]
  case issued =>
    have h := sweepIntakeOff_issued (d := d) hs hp hw
    rw [h] at hsweep hwaiting
    exact ⟨hsweep, hwaiting⟩
  case body =>
    have h := sweepIntakeOff_body (d := d) hs hp
    rw [h] at hsweep hwaiting
    exact ⟨hsweep, hwaiting⟩

end Sys2Proof.Machine
end

section
/-!
PROOFS. The start of a sweep, by the sweep timer or a PROMPT (R129, R130, R131, R165): the strip writes it waits for, its strip
read, and the fault of one that the link cannot take.
-/
namespace Sys2Proof.Machine

open Sys2Proof

/-! ### The strip writes in the buffer (R131) -/

theorem stripsAhead_none {ws : List HostWrite} (h : ∀ w ∈ ws, w.isStrip = false) : stripsAhead ws = 0 := by
  induction ws with
  | nil => rfl
  | cons w ws ih =>
    obtain ⟨hw, hws⟩ := List.forall_mem_cons.1 h
    simp [stripsAhead, ih hws, hw]

/-- The place of the last strip write, counted from 1. -/
theorem stripsAhead_last {w : HostWrite} {after : List HostWrite} (hw : w.isStrip = true)
    (ha : ∀ x ∈ after, x.isStrip = false) (before : List HostWrite) :
    stripsAhead (before ++ w :: after) = before.length + 1 := by
  induction before with
  | nil => simp [stripsAhead, stripsAhead_none ha, hw]
  | cons x before ih => simp [stripsAhead, ih]

/-- A sweep as it starts under a base (R131). -/
def newSweep (base : Addr) (phase : SweepPhase) : Sweep where
  base := base
  phase := phase
  snapshot := []
  held := []
  ending := false

section
variable {d : Device}

/-- A sweep that waits for no strip write asks for its strip read. -/
theorem startSweep_asks (h : ∀ w ∈ d.link.buffer, w.isStrip = false) : startSweep d
    = requestRead (stripRead d.regs.tableBase) (setSweep (some (newSweep d.regs.tableBase .strip)) d) := by
  simp only [startSweep, stripsAhead_none h, newSweep]

/-- A sweep waits until the last strip write has left the buffer. -/
theorem startSweep_waits {before after : List HostWrite} {w : HostWrite} (hb : d.link.buffer = before ++ w :: after)
    (hw : w.isStrip = true) (ha : ∀ x ∈ after, x.isStrip = false) : startSweep d = setSweep (some
      (newSweep d.regs.tableBase (.waitStrips (before.length + 1)))) d := by
  simp only [startSweep, hb, stripsAhead_last hw ha, newSweep]

/-! ### A read that the link cannot take (R165) -/

/-- A read asked for with no other in flight or waiting, that the link cannot take, faults at once. -/
theorem requestRead_faults (r : ReadReq) (hh : d.link.halted = false) (hw : d.link.waiting = [])
    (hf : d.link.inFlight = none) (hc : d.link.canIssue = false) : requestRead r d = raiseBlocked r.site r.slot d := by
  rw [requestRead, if_neg (by simp [hh]), pumpReads]
  simp only [hw, List.nil_append, hf]
  refine (if_neg (by simpa [LinkPort.canIssue] using hc)).trans ?_
  rw [← hw, ← hf]

/-- The class names a condition that fails; either where both do (log entry 2). -/
theorem raiseBlocked_halts (hc : d.link.inputs.up = false ∨ d.link.inputs.mastering = false) (site : Site)
    (slot : Option (Fin 32)) : ∃ cls choices sent msg,
      (cls = .masterOff ∧ d.link.inputs.mastering = false ∨ cls = .linkDown ∧ d.link.inputs.up = false)
      ∧ (Device.faulted { d with link := { d.link with choices := choices } }
        { cls := cls, site := site, slot := slot, clock := d.clock } sent msg).Halts (raiseBlocked site slot d) := by
  have hclass : ∃ cls choices, blockedClass d = (cls, { d with link := { d.link with choices := choices } })
      ∧ (cls = .masterOff ∧ d.link.inputs.mastering = false ∨ cls = .linkDown ∧ d.link.inputs.up = false) := by
    unfold blockedClass
    split
    · next hup => exact ⟨.masterOff, d.link.choices, rfl, .inl ⟨rfl, hc.resolve_left (by simp [hup])⟩⟩
    · next hup =>
      have hdown : d.link.inputs.up = false := Bool.not_eq_true _ ▸ hup
      split
      · exact ⟨.linkDown, d.link.choices, rfl, .inr ⟨rfl, hdown⟩⟩
      · next hmast =>
        refine ⟨_, d.link.choices + 1, rfl, ?_⟩
        split
        · exact .inr ⟨rfl, hdown⟩
        · exact .inl ⟨rfl, Bool.not_eq_true _ ▸ hmast⟩
  obtain ⟨cls, choices, hb, hcls⟩ := hclass
  rw [raiseBlocked, hb]
  obtain ⟨sent, msg, h⟩ := raiseFault_halts cls site slot { d with link := { d.link with choices := choices } }
  exact ⟨cls, choices, sent, msg, hcls, h⟩

/-! ### The strip read (R131, R165) -/

/-- A part whose strip read the link could not take: HALTED, the fault at site SWEEP, no sweep, read, post or trace, and the
idle timers paused (R131, R165, R167, R169). -/
def Device.StripFaults (d d' : Device) : Prop :=
  d'.link.halted = true ∧ d'.regs.event.getLsbD 1 = true ∧ d'.intake.sweep = none
    ∧ d'.intake.promptPending = false ∧ d'.link.inFlight = none ∧ d'.link.waiting = []
    ∧ (∀ e, d.link.faultRecord = some e → d'.link.faultRecord = some e)
    ∧ (d.link.faultRecord = none → ∃ cls, d'.link.faultRecord = some
        { cls := cls, site := .sweep, slot := none, clock := d.clock }
      ∧ (cls = .masterOff ∧ d.link.inputs.mastering = false ∨ cls = .linkDown ∧ d.link.inputs.up = false))
    ∧ d'.exec = none ∧ d'.trace = none ∧ d'.delivery = d.delivery.paused ∧ d'.scan = d.scan
    ∧ d'.chans = d.chans ∧ d'.profiles = d.profiles ∧ d'.clock = d.clock

theorem raiseBlocked_stripFaults (hc : d.link.inputs.up = false ∨ d.link.inputs.mastering = false) :
    d.StripFaults (raiseBlocked .sweep none d) := by
  obtain ⟨cls, choices, sent, msg, hcls, h⟩ := raiseBlocked_halts hc .sweep none
  obtain ⟨bits, hevent⟩ := h.event
  have hkept := h.kept
  refine ⟨h.halted, ?event, h.sweep.1, h.sweep.2, h.reads.1, h.reads.2, fun e he => ?recorded, fun he => ⟨cls, ?fresh, hcls⟩,
    h.work.1, h.work.2, h.delivery, congrArg Kept.scan hkept, congrArg Kept.chans hkept, congrArg Kept.profiles hkept,
    congrArg Kept.clock hkept⟩
  case event => rw [hevent]; simp [Device.faulted]
  case recorded => rw [h.record]; simp [Device.faulted, he]
  case fresh => rw [h.record]; simp [Device.faulted, he]

section
variable (hh : d.link.halted = false) (hb : ∀ w ∈ d.link.buffer, w.isStrip = false) (hw : d.link.waiting = [])
include hh hb hw

/-- The strip read of a sweep is issued where no other read is in flight. -/
theorem startSweep_issues (hf : d.link.inFlight = none) (hup : d.link.inputs.up = true)
    (hmast : d.link.inputs.mastering = true) :
    startSweep d = { setSweep (some (newSweep d.regs.tableBase .strip)) d with
      link := { d.link with inFlight := some { req := stripRead d.regs.tableBase, elapsed := 0 } } } :=
  (startSweep_asks hb).trans
    (requestRead_issues _ (by exact hh) (by exact hw) (by exact hf) (by simp [LinkPort.canIssue, hup, hmast]))

/-- Behind another read it waits. -/
theorem startSweep_queues (hf : d.link.inFlight ≠ none) :
    startSweep d = { setSweep (some (newSweep d.regs.tableBase .strip)) d with
      link := { d.link with waiting := [stripRead d.regs.tableBase] } } :=
  (startSweep_asks hb).trans (requestRead_waits _ (by exact hh) (by exact hw) (by exact hf))

/-- One that the link cannot take ends the sweep with its fault. -/
theorem startSweep_faults (hf : d.link.inFlight = none)
    (hc : d.link.inputs.up = false ∨ d.link.inputs.mastering = false) : d.StripFaults (startSweep d) := by
  have hcan : d.link.canIssue = false := by rcases hc with hc | hc <;> simp [LinkPort.canIssue, hc]
  rw [startSweep_asks hb, requestRead_faults _ (by exact hh) (by exact hw) (by exact hf) (by exact hcan)]
  exact raiseBlocked_stripFaults (d := setSweep (some (newSweep d.regs.tableBase .strip)) d) hc

end

end

/-! ### PROMPT and the sweep timer (R129, R130) -/

section
variable {d : Device}

theorem promptWrite_discarded (h : d.regs.intake = false ∨ d.link.halted = true) : promptWrite d = d :=
  if_neg (by rcases h with h | h <;> simp [Device.canSweep, h])

theorem promptWrite_pending (hi : d.regs.intake = true) (hh : d.link.halted = false) (hs : d.intake.sweep ≠ none) :
    promptWrite d = { d with intake := { d.intake with promptPending := true } } := by
  obtain ⟨sw, hs⟩ := Option.ne_none_iff_exists'.1 hs
  simp [promptWrite, Device.canSweep, hi, hh, hs]

theorem promptWrite_starts (hi : d.regs.intake = true) (hh : d.link.halted = false) (hs : d.intake.sweep = none) :
    promptWrite d = startSweep d := by simp [promptWrite, Device.canSweep, hi, hh, hs]

/-- The part with its sweep timer at this time. -/
def Device.sweepAt (d : Device) (us : Nat) : Device := { d with intake := { d.intake with elapsed := us } }

theorem sweepExpiry_early (h : d.intake.elapsed < 1000) : sweepExpiry d = d := if_neg (Nat.not_le.2 h)

theorem sweepExpiry_idle (h : 1000 ≤ d.intake.elapsed)
    (hno : d.regs.intake = false ∨ d.link.halted = true ∨ d.intake.sweep ≠ none) :
    sweepExpiry d = d.sweepAt (d.intake.elapsed - 1000) := by
  rw [sweepExpiry, if_pos h]
  refine if_neg ?_
  rcases hno with h | h | h <;> simp [Device.canSweep, h]

theorem sweepExpiry_starts (h : 1000 ≤ d.intake.elapsed) (hi : d.regs.intake = true) (hh : d.link.halted = false)
    (hs : d.intake.sweep = none) :
    sweepExpiry d = startSweep (d.sweepAt (d.intake.elapsed - 1000)) := by
  rw [sweepExpiry, if_pos h]
  exact if_pos (by simp [Device.canSweep, hi, hh, hs])

end

/-- Settles O12. -/
theorem promptStartsSweep : Obligations.PromptStartsSweep := by
  intro s v
  have answers : ∀ {d : Device}, promptWrite s.dev = d → exec (.prompt v) s = .next { s with dev := d } := effect_next
  have starts : s.dev.regs.intake = true → s.dev.link.halted = false → s.dev.intake.sweep = none →
      ∀ {d : Device}, startSweep s.dev = d → exec (.prompt v) s = .next { s with dev := d } :=
    fun hi hh hs _ hd => answers ((promptWrite_starts hi hh hs).trans hd)
  refine ⟨fun h => answers (promptWrite_discarded h), fun hi hh hs => answers (promptWrite_pending hi hh hs),
    fun hi hh hs hb hw => ⟨fun hf hup hmast => ?issues, fun hf => ?queues, fun hf hc => ?faults⟩,
    fun hi hh hs before w after hbuffer hw ha => starts hi hh hs (startSweep_waits hbuffer hw ha)⟩
  case issues => exact starts hi hh hs (startSweep_issues hh hb hw hf hup hmast)
  case queues => exact starts hi hh hs (startSweep_queues hh hb hw hf)
  case faults => exact ⟨_, starts hi hh hs rfl, rfl, startSweep_faults hh hb hw hf hc⟩

/-- Settles O29. -/
theorem sweepTimerStartsSweep : Obligations.SweepTimerStartsSweep := by
  intro s later sw rd
  have answers : ∀ {d : Device}, sweepExpiry s.dev = d → exec .sweepTimerExpiry s = .next { s with dev := d } := effect_next
  refine ⟨fun h => answers (sweepExpiry_early h), fun h hno => answers (sweepExpiry_idle h hno),
    fun h hi hh hs hb hw hf hup hmast => ?issues, fun h hi hh hs hb hw hf hc => ?faults⟩
  case issues =>
    have hstart : ∀ us, startSweep (s.dev.sweepAt us) = { s.dev with
        intake := { s.dev.intake with elapsed := us, sweep := some sw }
        link := { s.dev.link with inFlight := some { req := rd, elapsed := 0 } } } :=
      fun us => startSweep_issues (d := s.dev.sweepAt us) hh hb hw hf hup hmast
    exact answers ((sweepExpiry_starts h hi hh hs).trans (hstart _))
  case faults =>
    have hstart : ∀ us, s.dev.StripFaults (startSweep (s.dev.sweepAt us)) :=
      fun us => startSweep_faults (d := s.dev.sweepAt us) hh hb hw hf hc
    exact ⟨_, answers (sweepExpiry_starts h hi hh hs), rfl, hstart _⟩

end Sys2Proof.Machine
end

section
/-!
PROOFS. TRACE, found by a sweep (R133, R136, R137, R145, R146), and what the Trace Unit does with the frames it receives and
with its channel's going IDLE (R147 to R150, R152, R153).
-/
namespace Sys2Proof.Machine

open Sys2Proof

/-! ### The checks (R145) -/

theorem parseTrigger_eq (t : Byte) :
    parseTrigger t = [Trigger.immediate, .proxIn, .touch, .lift, .pressureAbove][t.toNat]? := by
  unfold parseTrigger
  generalize t.toNat = n
  rcases n with _ | _ | _ | _ | _ | n <;> rfl

theorem parseTrigger_isNone_iff (t : Byte) : (parseTrigger t).isNone = true ↔ 4 < t.toNat := by
  unfold parseTrigger
  generalize t.toNat = n
  rcases n with _ | _ | _ | _ | _ | n <;> simp

theorem parseTrigger_pressureAbove_iff (t : Byte) : parseTrigger t = some .pressureAbove ↔ t = 4 := by
  refine ⟨fun h => ?_, fun h => by rw [h]; rfl⟩
  unfold parseTrigger at h
  split at h
  case h_5 ht => exact BitVec.eq_of_toNat_eq ht
  all_goals simp at h

theorem parseChannel_isNone_iff (c : Byte) : (parseChannel c).isNone = true ↔ 1 < c.toNat := by
  unfold parseChannel
  generalize c.toNat = n
  rcases n with _ | _ | n <;> simp

theorem parseChannel_inRange {c : Byte} (h : c.toNat ≤ 1) : (parseChannel c).getD .a = if c = 0 then .a else .b := by
  have hc : c = 0 ∨ c = 1 := by
    rcases Nat.le_one_iff_eq_zero_or_eq_one.1 h with h | h
    · exact .inl (BitVec.eq_of_toNat_eq h)
    · exact .inr (BitVec.eq_of_toNat_eq h)
  rcases hc with rfl | rfl <;> rfl

/-- The fields of a TRACE that R145 bounds are within their bounds. -/
def traceInRange (p : TraceParams) : Prop :=
  p.channel.toNat ≤ 1 ∧ p.trigger.toNat ≤ 4
    ∧ (p.trigger = 4 → 1 ≤ p.level.toNat ∧ p.level.toNat ≤ 16383) ∧ p.pre.toNat ≤ 15
    ∧ 1 ≤ p.post.toNat ∧ p.post.toNat ≤ 240 ∧ p.pre.toNat + 1 ≤ p.capacity.toNat

section
variable {p : TraceParams}

/-- Every check of a range comes before that of the alignment. -/
theorem traceReject_range (h : ¬traceInRange p) : traceReject p = some .range := by
  unfold traceReject
  simp only [parseChannel_isNone_iff, parseTrigger_isNone_iff, parseTrigger_pressureAbove_iff]
  split_ifs with hchannel htrigger hlevel hpre hpost hcap
  any_goals rfl
  all_goals
    refine absurd ⟨Nat.not_lt.1 hchannel, Nat.not_lt.1 htrigger, fun h4 => ?_, Nat.not_lt.1 hpre, hpost.1, hpost.2,
      Nat.not_lt.1 hcap⟩ h
    by_contra hbad
    exact hlevel ⟨h4, hbad⟩

theorem traceReject_inRange (h : traceInRange p) : traceReject p = if p.dest.toNat % 32 = 0 then none else some .align := by
  obtain ⟨hchannel, htrigger, hlevel, hpre, hpost, hpost', hcap⟩ := h
  unfold traceReject
  simp only [parseChannel_isNone_iff, parseTrigger_isNone_iff, parseTrigger_pressureAbove_iff]
  rw [if_neg (by omega), if_neg (by omega), if_neg (fun h => h.2 (hlevel h.1)), if_neg (by omega), if_neg (by omega), if_neg (by omega)]
  simp [aligned]

theorem postApplied_eq (h : traceInRange p) : postApplied p = min p.post.toNat (p.capacity.toNat - p.pre.toNat) := by
  obtain ⟨-, -, -, -, -, -, hcap⟩ := h
  unfold postApplied
  split <;> omega

end

/-! ### A post that is rejected, or whose work begins without the Executor (R136, R137) -/

section
variable {d : Device} {slot : Fin 32} {p : TraceParams}

/-- A post that is rejected ends the sweep: its result and DONE are in the buffer (R137). -/
theorem postFound_rejects {p : Post} {kind : Byte} (hk : postKind p = kind) (h : d.Finds slot kind)
    {notify notify' : Bool} {dt : Detail}
    (hx : settlePost (d.foundMark slot kind notify) p (endRead d)
      = some (rejectSlot (d.foundMark slot kind notify') dt (endRead d))) :
    postFound slot notify p d = d.swept.rejectedSlot (d.foundMark slot kind notify') dt := by
  subst hk
  rw [rejectSlot_meets h.meets] at hx
  rw [postFound_settles h.meets notify hx ⟨rfl, rfl, rfl, rfl, h.calm.noProducer.keep rfl rfl rfl rfl, .inr rfl⟩]
  rfl

/-- A unit that holds a trace rejects another with NOTIFY taken as set (R133, R137). -/
theorem settlePost_busy (ht : d.trace ≠ none) (m : SlotMark) :
    settlePost m (.trace p) d = some (rejectSlot { m with notify := true } .busy d) := by
  have hroom : d.noRoom (postKind (.trace p)) = false := by simp [Device.noRoom, postKind, executorKind]
  rw [settlePost, if_neg (by simp [hroom]), if_pos ⟨rfl, Option.isSome_iff_ne_none.2 ht⟩]

/-- An IDLE unit checks the body. -/
theorem settlePost_trace (ht : d.trace = none) (m : SlotMark) :
    settlePost m (.trace p) d = some (handleTrace m p d) := by
  have hroom : d.noRoom (postKind (.trace p)) = false := by simp [Device.noRoom, postKind, executorKind]
  rw [settlePost, if_neg (by simp [hroom]), if_neg (by simp [ht])]
  rfl

theorem trace_rejected (h : d.Finds slot 6) (ht : d.trace = none) (notify : Bool) {dt : Detail}
    (hr : traceReject p = some dt) :
    postFound slot notify (.trace p) d = d.swept.rejectedSlot (d.foundMark slot 6 notify) dt :=
  postFound_rejects rfl h ((settlePost_trace (by exact ht) _).trans (by rw [handleTrace, hr]))

/-- A TRACE that passes its checks arms, and its TAKEN write is in the buffer (R136, R146). -/
theorem trace_arms (h : d.Finds slot 6) (ht : d.trace = none) (notify : Bool) (hr : traceReject p = none) :
    postFound slot notify (.trace p) d = (armTrace slot p d.swept).tookSlot (d.foundMark slot 6 notify) := by
  let m := d.foundMark slot 6 notify
  let e := setRotation slot (armTrace slot p (d.taking m))
  have hn : e.NoProducer :=
    ⟨.inl h.calm.holding, h.calm.slotQueue, fun t harmed => by
      obtain rfl := Option.some.inj harmed; rfl, bulkGrant_none_of_exec (by rfl) h.calm.bulk⟩
  have hx : settlePost m (.trace p) (endRead d) = some (e.wrote [takenWrite m]) := by
    rw [settlePost_trace (by exact ht), handleTrace, hr]
    exact congrArg some ((takeSlot_meets h.meets notify (armTrace slot p)).trans
      (settleLink_issues hn h.calm.canIssue (List.cons_ne_nil _ _)))
  rw [postFound_settles (p := .trace p) h.meets notify hx
    ⟨rfl, rfl, rfl, rfl, Device.NoProducer.keep (d := e) hn rfl rfl rfl rfl, .inr rfl⟩]
  rfl

/-- The trace armed, with its channel, trigger and post count as R145 gives them. -/
theorem newTrace_eq (h : traceInRange p) {tr : Trigger}
    (htr : [Trigger.immediate, .proxIn, .touch, .lift, .pressureAbove][p.trigger.toNat]? = some tr) : newTrace slot p =
    { slot := slot, ch := if p.channel = 0 then .a else .b, trigger := tr, level := p.level.toNat,
      pre := p.pre.toNat, post := min p.post.toNat (p.capacity.toNat - p.pre.toNat), dest := p.dest, capturing := false,
      ring := [], staging := [], toTake := 0, written := 0, preWritten := 0, trigTag := none, channelOff := false } := by
  rw [newTrace, parseChannel_inRange h.1, parseTrigger_eq, htr, postApplied_eq h]
  rfl

end

/-! ### Frames kept (R147, R149) -/

theorem newest_suffix {α : Type} (n : Nat) (l : List α) : newest n l <:+ l := List.drop_suffix _ _

theorem length_newest {α : Type} (n : Nat) (l : List α) : (newest n l).length = min n l.length := by
  rw [newest, List.length_drop]; omega

/-- A part of nine loops is kept as it is. -/
theorem keepNine_nine (n : Nat) {p : PartResult} (h : p.amps.length = 9) : keepNine n p = p := if_pos h

/-- Of a part over a whole axis the nine loops around its peak loop are kept. -/
theorem keepNine_axis {n : Nat} {p : PartResult} (ho : p.origin = 0) (hlen : p.amps.length = n) (hn : 16 ≤ n) :
    (keepNine n p).origin = min (p.peakLoop - 4) (n - 9) ∧ (keepNine n p).amps.length = 9
      ∧ ∀ i < 9, (keepNine n p).amps.getD i 0 = p.amps.getD ((keepNine n p).origin + i) 0 := by
  have hkeep : keepNine n p = { origin := min (p.peakLoop - 4) (n - 9)
                                amps := (p.amps.drop (min (p.peakLoop - 4) (n - 9))).take 9 } := by
    rw [keepNine, if_neg (by omega)]
    simp [ho]
  rw [hkeep]
  refine ⟨rfl, ?_, fun i hi => ?_⟩
  · simp only [List.length_take, List.length_drop]; omega
  · simp [List.getD_eq_getElem?_getD, hi]

/-! ### A frame received, and the channel going IDLE (R148 to R150, R152, R153) -/

/-- The step fires the trigger (R148). -/
theorem triggerFires_iff (j : TraceJob) (ev : RecEvent) (st : TrackState) (pressure : Nat) :
    triggerFires j ev st pressure = true ↔ j.trigger = .immediate ∨ (j.trigger = .proxIn ∧ ev = .proxIn)
      ∨ (j.trigger = .touch ∧ (ev = .touch ∨ (ev = .proxIn ∧ st = .contact))) ∨ (j.trigger = .lift ∧ ev = .lift)
      ∨ (j.trigger = .pressureAbove ∧ j.level ≤ pressure) := by
  unfold triggerFires
  cases j.trigger <;> simp

section
variable {d : Device} {j : TraceJob} {r : FrameResults} {ev : RecEvent} {st : TrackState} {pressure : Nat}
  (hj : d.trace = some j)
include hj

/-- A frame or an end of another channel is nothing to the trace. -/
theorem trace_otherChannel {ch : Channel} (hch : ch ≠ j.ch) :
    receiveTraceFrame ch r ev st pressure d = d ∧ traceChannelOff ch d = d := by
  simp [receiveTraceFrame, traceChannelOff, hj, hch.symm]

theorem receive_joinsRing (hc : j.capturing = false) (hf : ¬triggerFires j ev st pressure = true) :
    receiveTraceFrame j.ch r ev st pressure d
      = { d with trace := some { j with ring := newest 16 (j.ring ++ [traceFrame d.board j.ch r st]) } } := by
  simp [receiveTraceFrame, hj, hc, hf]

theorem receive_fires (hc : j.capturing = false) (hf : triggerFires j ev st pressure = true) :
    receiveTraceFrame j.ch r ev st pressure d
      = { d with trace := some (fireTrigger j (traceFrame d.board j.ch r st)) } := by
  simp [receiveTraceFrame, hj, hc, hf]

theorem receive_takenAll (hc : j.capturing = true) (ht : j.toTake = 0) :
    receiveTraceFrame j.ch r ev st pressure d = d := by simp [receiveTraceFrame, hj, hc, ht]

theorem receive_stages (hc : j.capturing = true) (ht : 0 < j.toTake) (hs : j.staging.length < 16) :
    receiveTraceFrame j.ch r ev st pressure d
      = { d with trace := some { j with staging := j.staging ++ [traceFrame d.board j.ch r st], toTake := j.toTake - 1 } } := by
  simp [receiveTraceFrame, hj, hc, ht.ne', hs]

theorem receive_overruns (hc : j.capturing = true) (ht : 0 < j.toTake) (hs : 16 ≤ j.staging.length) :
    receiveTraceFrame j.ch r ev st pressure d = endTrace .ok .overrun { j with toTake := j.toTake - 1 } d := by
  simp [receiveTraceFrame, hj, hc, ht.ne', Nat.not_lt.2 hs]

/-- A trace that captures and has frames staged ends once they are written. -/
theorem channelOff_waits (hc : j.capturing = true) (hs : j.staging ≠ []) :
    traceChannelOff j.ch d = { d with trace := some { j with toTake := 0, channelOff := true } } := by
  simp [traceChannelOff, hj, hc, hs]

theorem channelOff_ends (h : j.capturing = false ∨ j.staging = []) :
    traceChannelOff j.ch d = endTrace .ok .channelOff j d := by
  rcases h with h | h <;> simp [traceChannelOff, hj, h]

end

/-- The writes that complete a trace, its fields written out (R152, R195). -/
theorem endTrace_eq (dt : Detail) (j : TraceJob) (d : Device) : endTrace .ok dt j d = { d with
    trace := none
    link := { d.link with slotQueue := d.link.slotQueue ++
      [resultWrite (d.markOf j.slot) .ok dt (le 2 j.written ++ le 1 j.preWritten
          ++ le 1 (if j.trigTag = none then 0 else 1) ++ le 2 j.post ++ le 2 0 ++ le 4 (j.trigTag.getD 0).toNat),
        doneWrite (d.markOf j.slot)] } } := by
  have htag : bit j.trigTag.isSome = if j.trigTag = none then 0 else 1 := by cases j.trigTag <;> rfl
  rw [← htag]
  rfl

/-- Settles O34. -/
theorem traceArmsOrRejects : Obligations.TraceArmsOrRejects := by
  refine ⟨?post, ?frames⟩
  case post =>
    intro s slot notify p h m inRange
    have answers : ∀ {d : Device}, postFound slot notify (.trace p) s.dev = d →
        exec (.trace slot notify p) s = .next { s with dev := d } := effect_next
    refine ⟨fun ht => answers ?busy, fun ht hno => answers (trace_rejected h ht notify (traceReject_range hno)),
      fun tr ht hin htr => ⟨fun ha => answers ?unaligned, fun ha => answers ?arms⟩⟩
    case busy => exact postFound_rejects (p := .trace p) rfl h (notify' := true) (settlePost_busy (by exact ht) _)
    case unaligned => exact trace_rejected h ht notify ((traceReject_inRange hin).trans (if_neg ha))
    case arms =>
      rw [trace_arms h ht notify ((traceReject_inRange hin).trans (if_pos ha)), armTrace, newTrace_eq hin htr]
  case frames =>
    intro d j ch r ev st pressure hj tf fires goesOn ended nine received off
    have hfires : triggerFires j ev st pressure = true ↔ fires := triggerFires_iff j ev st pressure
    have hnine : ∀ n p, nine n p (keepNine n p) := fun n p => ⟨keepNine_nine n, keepNine_axis⟩
    refine ⟨trace_otherChannel hj,
      fun hc hf => ⟨_, receive_joinsRing hj hc (hfires.not.2 hf), newest_suffix 16 _, ?ring⟩,
      fun hc hf => ⟨newest j.pre j.ring, newest_suffix j.pre j.ring, length_newest j.pre j.ring, ?fired⟩,
      receive_takenAll hj, receive_stages hj, fun hc ht hs => ?overrun, channelOff_waits hj, fun h => ?off, rfl, rfl, rfl,
      rfl, rfl, rfl, rfl, hnine _ _, hnine _ _, hnine _ _, hnine _ _⟩
    case ring => rw [length_newest, List.length_append, List.length_singleton]
    case fired =>
      refine (receive_fires hj hc (hfires.2 hf)).trans ?_
      rw [fireTrigger, List.length_map]
      rfl
    case overrun => exact (receive_overruns hj hc ht hs).trans (endTrace_eq .overrun _ d)
    case off => exact (channelOff_ends hj h).trans (endTrace_eq .channelOff j d)

end Sys2Proof.Machine
end

section
/-!
PROOFS. STRIP_READ_COMPLETE (R131 to R133, R137): the strip words as read, the slots passed over, and what the first slot that
is not passed over comes to.
-/
namespace Sys2Proof.Machine

open Sys2Proof

/-! ### The bytes of a strip (R189, R192) -/

theorem field_succ (bytes : List Byte) (offset n : Nat) :
    field bytes offset (n + 1) = (bytes.getD offset 0).toNat + 256 * field bytes (offset + 1) n := by
  unfold field
  rw [← List.drop_drop, List.drop_one, List.getD_eq_getElem?_getD, ← List.head?_drop]
  cases bytes.drop offset with
  | nil => simp [leValue]
  | cons b bs => rfl

/-- A field of one byte is that byte. -/
theorem ofNat_field_one (bytes : List Byte) (offset : Nat) :
    BitVec.ofNat 8 (field bytes offset 1) = bytes.getD offset 0 := by
  rw [field_succ]
  simp [field, leValue]

theorem length_words32 (n : Nat) : ∀ bytes, (words32 n bytes).length = n := by
  induction n with
  | zero => exact fun _ => rfl
  | succ n ih => exact fun bytes => congrArg Nat.succ (ih (bytes.drop 4))

theorem getD_words32 (n : Nat) : ∀ (bytes : List Byte) {k : Nat}, k < n →
    (words32 n bytes).getD k 0 = BitVec.ofNat 32 (field bytes (4 * k) 4) := by
  induction n with
  | zero => exact fun _ _ h => absurd h (Nat.not_lt_zero _)
  | succ n ih =>
    intro bytes k h
    cases k with
    | zero => rfl
    | succ k =>
      rw [words32, List.getD_cons_succ, ih _ (Nat.lt_of_succ_lt_succ h), field, field, List.drop_drop,
        show 4 + 4 * k = 4 * (k + 1) by omega]

/-- A strip word has the state in its first byte and the kind in its second. -/
theorem strip_fields (bytes : List Byte) {k : Nat} (h : k < 32) :
    stripState ((words32 32 bytes).getD k 0) = (bytes.getD (4 * k) 0).toNat
    ∧ stripKind ((words32 32 bytes).getD k 0) = bytes.getD (4 * k + 1) 0 := by
  rw [getD_words32 32 bytes h, field_succ, field_succ]
  have hstate := (bytes.getD (4 * k) 0).isLt
  have hkind := (bytes.getD (4 * k + 1) 0).isLt
  refine ⟨?_, BitVec.eq_of_toNat_eq ?_⟩
  · simp only [stripState, BitVec.extractLsb'_toNat, BitVec.toNat_ofNat, Nat.shiftRight_zero]
    omega
  · simp only [stripKind, BitVec.extractLsb'_toNat, BitVec.toNat_ofNat, Nat.shiftRight_eq_div_pow]
    omega

/-! ### What a visit settles on (R133) -/

section
variable {sw : Sweep} {slot : Fin 32} {d : Device} {kind : Byte}

theorem executorKind_iff : executorKind kind = true ↔ 2 ≤ kind.toNat ∧ kind.toNat ≤ 9 ∧ kind ≠ 6 := by
  simp [executorKind, and_assoc]

/-- The unit of a kind has no room: the Capture Queue is full, or the Executor has a post. -/
theorem noRoom_iff : d.noRoom kind = true ↔ (kind = 1 ∧ 16 ≤ d.delivery.captures.length)
    ∨ (2 ≤ kind.toNat ∧ kind.toNat ≤ 9 ∧ kind ≠ 6 ∧ d.exec ≠ none) := by
  simp only [Device.noRoom, Bool.or_eq_true, Bool.and_eq_true, beq_iff_eq, decide_eq_true_eq, executorKind_iff,
    Option.isSome_iff_ne_none, and_assoc]

/-- A slot passed over: not POSTED, in flight, or of a kind whose unit has no room. -/
theorem visit_passes (hk : stripKind (sw.snapshot.getD slot.val 0) = kind)
    (h : stripState (sw.snapshot.getD slot.val 0) ≠ 1 ∨ d.isInFlight slot = true ∨ d.noRoom kind = true) :
    visit sw slot d = .pass := by
  have hknown : d.noRoom kind = true → 1 ≤ kind.toNat ∧ kind.toNat ≤ 9 := by
    rw [noRoom_iff]
    rintro (⟨rfl, -⟩ | ⟨h2, h9, -⟩)
    · decide
    · exact ⟨Nat.le_of_succ_le h2, h9⟩
  simp only [visit, hk]
  rcases h with h | h | h
  · rw [if_pos h]
  · simp [h]
  · simp [h, hknown h]

section
variable (hk : stripKind (sw.snapshot.getD slot.val 0) = kind) (hs : stripState (sw.snapshot.getD slot.val 0) = 1)
  (hheld : slot ∉ sw.held) (hclear : d.isInFlight slot = false)
include hk hs hheld hclear

/-- A POSTED slot of an unknown kind is rejected. -/
theorem visit_unknownKind (h : ¬(1 ≤ kind.toNat ∧ kind.toNat ≤ 9)) : visit sw slot d = .reject .unknownKind := by
  simp only [visit, hk, hs]
  rw [if_neg (by simp), if_neg (by simp [hheld, hclear]), if_pos h]

/-- A POSTED TRACE is rejected while the Trace Unit is not IDLE. -/
theorem visit_busy (h : kind = 6) (ht : d.trace ≠ none) : visit sw slot d = .reject .busy := by
  have hroom : d.noRoom kind = false := by rw [h]; rfl
  have hknown : 1 ≤ kind.toNat ∧ kind.toNat ≤ 9 := by rw [h]; decide
  simp only [visit, hk, hs]
  rw [if_neg (by simp), if_neg (by simp [hheld, hclear]), if_neg (not_not.2 hknown), if_neg (by simp [hroom]),
    if_pos ⟨h, Option.isSome_iff_ne_none.2 ht⟩]

/-- A POSTED slot of a known kind whose unit has room has its body read. -/
theorem visit_reads (h1 : 1 ≤ kind.toNat) (h9 : kind.toNat ≤ 9) (hroom : d.noRoom kind = false)
    (ht : kind = 6 → d.trace = none) : visit sw slot d = .readBody := by
  simp only [visit, hk, hs]
  rw [if_neg (by simp), if_neg (by simp [hheld, hclear]), if_neg (by simp [h1, h9]), if_neg (by simp [hroom]),
    if_neg (by simpa using ht)]

end

end

/-! ### The walk (R132, R135) -/

section
variable {d : Device} {sw : Sweep} {slot : Fin 32} {rest : List (Fin 32)}

/-- Slots that are passed over change nothing. -/
theorem walk_passes {passed : List (Fin 32)} (hs : d.intake.sweep = some sw) (he : sw.ending = false)
    (h : ∀ k ∈ passed, visit sw k d = .pass) : walk (passed ++ rest) d = walk rest d := by
  induction passed with
  | nil => rfl
  | cons k passed ih =>
    obtain ⟨hk, hpassed⟩ := List.forall_mem_cons.1 h
    rw [List.cons_append, walk]
    simp only [hs, he, hk, Bool.false_eq_true, if_false]
    exact ih hpassed

/-- At a slot whose body is to be read the walk asks for it (R134). -/
theorem walk_reads (hs : d.intake.sweep = some sw) (he : sw.ending = false) (hv : visit sw slot d = .readBody) :
    walk (slot :: rest) d
      = requestRead (bodyRead sw.base slot) (setSweep (some { sw with phase := .body slot rest }) d) := by
  simp only [walk, hs, he, hv, Bool.false_eq_true, if_false]

/-- A part whose sweep has its body read of a slot in flight, with the slots still to visit. -/
def Device.readingBody (d : Device) (sw : Sweep) (slot : Fin 32) (rest : List (Fin 32)) : Device := { d with
  intake := { d.intake with sweep := some { sw with phase := .body slot rest } }
  link := { d.link with inFlight := some { req := bodyRead sw.base slot, elapsed := 0 } } }

/-- In a live part with no other read the body read is issued at once, and where the link is settled nothing follows. -/
theorem afterRead_walk_reads (hlive : d.link.halted = false) (hw : d.link.waiting = []) (hf : d.link.inFlight = none)
    (hc : d.link.canIssue = true) (hl : d.Settled) (hs : d.intake.sweep = some sw) (he : sw.ending = false)
    (hv : visit sw slot d = .readBody) (rest : List (Fin 32)) :
    afterRead (walk (slot :: rest) d) = d.readingBody sw slot rest := by
  have hissued : walk (slot :: rest) d = d.readingBody sw slot rest :=
    (walk_reads hs he hv).trans (requestRead_issues (d := setSweep _ d) _ hlive hw hf hc)
  rw [hissued, afterRead, pumpReads_none (d := d.readingBody sw slot rest) hw]
  exact settleLink_settled ⟨hl.toNoProducer.keep rfl rfl rfl rfl, hl.head⟩

/-- A slot rejected in SINGLE mode ends the walk (R135). -/
theorem walk_rejects {dt : Detail} (hs : d.intake.sweep = some sw) (he : sw.ending = false)
    (hv : visit sw slot d = .reject dt) (hb : (rejectSlot (sw.mark slot true) dt d).regs.batch = false) :
    walk (slot :: rest) d = sweepDone (rejectSlot (sw.mark slot true) dt d) := by
  simp only [walk, hs, he, hv, hb, Bool.false_eq_true, if_false]

/-- A sweep's end in a part whose link is settled: nothing follows. -/
theorem afterRead_sweepDone (hs : d.intake.sweep.isSome = true) (hp : d.intake.promptPending = false)
    (hw : d.link.waiting = []) (hl : d.Settled) : afterRead (sweepDone d) = setSweep none d := by
  rw [sweepDone_unprompted hs hp, afterRead, pumpReads_none (by exact hw)]
  exact settleLink_settled (d := setSweep none d) (hl.keep rfl rfl rfl rfl)

/-- A slot rejected where no producer waits: its result and DONE are in the buffer, and its mark is clear again (R137). -/
theorem rejectSlot_settles {m : SlotMark} (hn : d.NoProducer) (hc : d.link.canIssue = true) (hb : d.link.buffer = [])
    (hclear : d.isInFlight m.slot = false) (dt : Detail) : rejectSlot m dt d = d.rejectedSlot m dt := by
  let x := setRotation m.slot (d.marked m)
  have hmark : x.markOf m.slot = m := markOf_marked d m
  have hunmarked : clearMark m.slot x = d.rotated m.slot := congrArg (setRotation m.slot) (clearMark_marked hclear)
  have hset : setRotation m.slot (handOver [resultWrite m .rejected dt [], doneWrite m] (setMark m d))
      = completeSlot m.slot .rejected dt [] x := by
    rw [setMark_clear hclear, completeSlot, hmark]; rfl
  have hdone := settleLink_completeSlot (d := x) (hn.keep rfl rfl rfl rfl) hc
    (by rw [show x.link.buffer = [] from hb]; decide) m.slot .rejected dt []
  rw [hmark, hunmarked, show x.link.buffer = [] from hb] at hdone
  rw [rejectSlot]
  exact (congrArg settleLink hset).trans hdone

/-- A slot rejected in SINGLE mode where no producer waits: the sweep ends, and nothing follows. -/
theorem walk_rejects_ends (hn : d.NoProducer) (hc : d.link.canIssue = true) (hbuf : d.link.buffer = [])
    (hw : d.link.waiting = []) (hp : d.intake.promptPending = false) (hb : d.regs.batch = false)
    (hclear : d.isInFlight slot = false) {dt : Detail} (hs : d.intake.sweep = some sw) (he : sw.ending = false)
    (hv : visit sw slot d = .reject dt) (rest : List (Fin 32)) :
    afterRead (walk (slot :: rest) d) = setSweep none (d.rejectedSlot (sw.mark slot true) dt) := by
  have hreject : rejectSlot (sw.mark slot true) dt d = d.rejectedSlot (sw.mark slot true) dt :=
    rejectSlot_settles hn hc hbuf hclear dt
  have hsweep : (d.rejectedSlot (sw.mark slot true) dt).intake.sweep.isSome = true := Option.isSome_of_eq_some hs
  rw [walk_rejects hs he hv (by rw [hreject]; exact hb), hreject]
  exact afterRead_sweepDone hsweep hp hw ⟨hn.keep rfl rfl rfl rfl, .inr rfl⟩

end

/-! ### The strip read completes (R131, R132) -/

/-- The slots of a walk in rotation, around the one at a place. -/
theorem rotationOrder_split (rotation : Fin 32) {i : Nat} (hi : i < 32) : rotationOrder rotation
    = (List.range i).map (fun j => Fin.ofNat 32 (rotation.val + 1 + j)) ++ Fin.ofNat 32 (rotation.val + 1 + i)
      :: (List.range (31 - i)).map fun j => Fin.ofNat 32 (rotation.val + 1 + (i + 1 + j)) := by
  have hrange : List.range 32 = List.range i ++ i :: (List.range (31 - i)).map fun j => i + 1 + j := by
    rw [show 32 = i + ((31 - i) + 1) by omega, List.range_add, List.range_succ_eq_map]
    simp only [List.map_cons, List.map_map, Nat.add_zero]
    congr 2
    refine List.map_congr_left fun j _ => ?_
    simp only [Function.comp]
    omega
  rw [rotationOrder, hrange]
  simp only [List.map_append, List.map_cons, List.map_map]
  rfl

/-- A sweep with its snapshot and the slots in flight fixed. -/
def Sweep.fixed (sw : Sweep) (bytes : List Byte) (d : Device) : Sweep :=
  { sw with snapshot := words32 32 bytes, held := d.intake.inFlight.map fun m => m.slot }

/-- The part as the walk of its sweep begins. -/
def Device.walking (d : Device) (sw : Sweep) (bytes : List Byte) : Device :=
  setSweep (some (sw.fixed bytes d)) (endRead d)

section
variable {d : Device} {sw : Sweep} {rd : ReadInFlight} {bytes : List Byte}

theorem stripArrived_walks (hf : d.link.inFlight = some rd) (hsite : rd.req.site = .sweep) (hlen : rd.req.len = bytes.length)
    (hs : d.intake.sweep = some sw) :
    stripArrived bytes d = afterRead (walk (rotationOrder d.intake.rotation) (d.walking sw bytes)) := by
  have hmatches : d.readMatches .sweep bytes = true := by simp [Device.readMatches, hf, hsite, hlen]
  have hsweep : (endRead d).intake.sweep = some sw := hs
  rw [stripArrived, if_pos hmatches, stripComplete]
  simp only [hsweep]
  rfl

theorem not_mem_held {k : Fin 32} (h : d.isInFlight k = false) : k ∉ (sw.fixed bytes d).held := by
  simpa [Sweep.fixed, Device.isInFlight] using h

/-- The first slot that is not passed over, rejected in SINGLE mode: the sweep ends. -/
theorem walking_rejects (h : d.Calm) (he : sw.ending = false) (hp : d.intake.promptPending = false)
    (hb : d.regs.batch = false) {k : Fin 32} {dt : Detail} (hclear : d.isInFlight k = false)
    (hv : visit (sw.fixed bytes d) k (d.walking sw bytes) = .reject dt) (rest : List (Fin 32)) :
    afterRead (walk (k :: rest) (d.walking sw bytes)) = d.swept.rejectedSlot ((sw.fixed bytes d).mark k true) dt := by
  have hends := walk_rejects_ends (d := d.walking sw bytes) (h.noProducer.keep rfl rfl rfl rfl) h.canIssue h.buffer
    h.waiting hp hb hclear rfl he hv rest
  exact hends

end

/-- Settles O30. -/
theorem stripReadWalksSlots : Obligations.StripReadWalksSlots := by
  intro s bytes sw rd hcalm hf hsite hlen hbytes hs hphase he hprompt posted kind passed ended
  let fixed := sw.fixed bytes s.dev
  let d := s.dev.walking sw bytes
  have hstate : ∀ k : Fin 32, stripState (fixed.snapshot.getD k.val 0) = (bytes.getD (4 * k.val) 0).toNat :=
    fun k => (strip_fields bytes k.isLt).1
  have hkind : ∀ k : Fin 32, stripKind (fixed.snapshot.getD k.val 0) = kind k := fun k => (strip_fields bytes k.isLt).2
  have hposted : ∀ k, posted k ↔ stripState (fixed.snapshot.getD k.val 0) = 1 := by
    intro k
    rw [hstate]
    exact ⟨fun h => congrArg BitVec.toNat h, fun h => BitVec.eq_of_toNat_eq h⟩
  have hpass : ∀ k, passed k → visit fixed k d = .pass := by
    intro k h
    refine visit_passes (hkind k) ?_
    rcases h with h | h | h
    · exact .inl ((hposted k).not.1 h)
    · exact .inr (.inl h)
    · exact .inr (.inr (noRoom_iff.2 h))
  have answers : ∀ {e : Device}, afterRead (walk (rotationOrder s.dev.intake.rotation) d) = e →
      exec (.stripReadComplete bytes) s = .next { s with dev := e } :=
    fun h => effect_next ((stripArrived_walks hf hsite (hlen.trans hbytes.symm) hs).trans h)
  refine ⟨fun hall => answers ?all, fun i k hi hk hpost hbefore hclear => ?first⟩
  case all =>
    have hwalk : walk (rotationOrder s.dev.intake.rotation ++ []) d = walk [] d :=
      walk_passes (d := d) (sw := fixed) rfl he fun k _ => hpass k (hall k)
    rw [← List.append_nil (rotationOrder s.dev.intake.rotation), hwalk, walk,
      afterRead_sweepDone (d := d) rfl hprompt hcalm.waiting ⟨hcalm.noProducer.keep rfl rfl rfl rfl, .inl hcalm.buffer⟩]
    rfl
  case first =>
    have hwalk : walk (rotationOrder s.dev.intake.rotation) d = walk (k :: (List.range (31 - i)).map fun j =>
        Fin.ofNat 32 (s.dev.intake.rotation.val + 1 + (i + 1 + j))) d := by
      rw [rotationOrder_split _ hi, ← hk]
      refine walk_passes (d := d) (sw := fixed) rfl he fun x hx => ?_
      obtain ⟨j, hj, rfl⟩ := List.mem_map.1 hx
      exact hpass _ (hbefore j (List.mem_range.1 hj))
    have hstate1 := (hposted k).1 hpost
    have hheld : k ∉ fixed.held := not_mem_held hclear
    have rejects : ∀ {dt : Detail}, s.dev.regs.batch = false → visit fixed k d = .reject dt →
        exec (.stripReadComplete bytes) s = .next { s with dev := ended.rejectedSlot (fixed.mark k true) dt } :=
      fun hb hv => answers (hwalk ▸ walking_rejects hcalm he hprompt hb hclear hv _)
    have hmark : fixed.mark k true = { slot := k, base := sw.base, kind := kind k, notify := true } := by
      rw [Sweep.mark, hkind]; rfl
    refine ⟨fun h1 h9 hcapture htrace hexec => ?reads, fun hunknown hb => ?unknown, fun h6 ht hb => ?busy⟩
    case reads =>
      have hroom : d.noRoom (kind k) = false := by
        rw [Bool.eq_false_iff, ne_eq, noRoom_iff]
        rintro (⟨h1, hfull⟩ | ⟨h2, -, h6, hbusy⟩)
        · exact absurd (hcapture h1) (Nat.not_lt.2 hfull)
        · exact hbusy (hexec (by rintro h1; rw [h1] at h2; exact absurd h2 (by decide)) h6)
      have hread := afterRead_walk_reads (d := d) hcalm.live hcalm.waiting rfl hcalm.canIssue
        ⟨hcalm.noProducer.keep rfl rfl rfl rfl, .inl hcalm.buffer⟩ rfl he (visit_reads (hkind k) hstate1 hheld hclear h1 h9 hroom htrace)
        ((List.range (31 - i)).map fun j => Fin.ofNat 32 (s.dev.intake.rotation.val + 1 + (i + 1 + j)))
      exact ⟨_, { fixed with phase := .body k _ }, answers (hwalk ▸ hread), rfl, rfl, rfl, he, rfl,
        length_words32 32 bytes, hkind, hstate⟩
    case unknown =>
      have h := rejects hb (visit_unknownKind (hkind k) hstate1 hheld hclear hunknown)
      rw [hmark] at h
      exact h
    case busy =>
      have h := rejects hb (visit_busy (hkind k) hstate1 hheld hclear h6 ht)
      rw [hmark, h6] at h
      exact h

end Sys2Proof.Machine
end

section
/-!
PROOFS. BODY_READ_COMPLETE (R134 to R137, R194): the post a body holds, what its slot settles on, and the walk going on.
-/
namespace Sys2Proof.Machine

open Sys2Proof

/-! ### The bytes of a body (R193, R194) -/

theorem leValue_lt (bytes : List Byte) : leValue bytes < 256 ^ bytes.length := by
  induction bytes with
  | nil => decide
  | cons b bs ih =>
    have hb := b.isLt
    rw [leValue, List.length_cons, Nat.pow_succ]
    omega

/-- A field fits a word of its width. -/
theorem toNat_ofNat_field (bytes : List Byte) (offset size : Nat) :
    (BitVec.ofNat (8 * size) (field bytes offset size)).toNat = field bytes offset size := by
  have hlt : field bytes offset size < 256 ^ size :=
    (leValue_lt _).trans_le (Nat.pow_le_pow_right (by decide) (List.length_take_le size _))
  rw [BitVec.toNat_ofNat, Nat.pow_mul]
  exact Nat.mod_eq_of_lt hlt

theorem bodyNotify_eq (bytes : List Byte) : bodyNotify bytes = (bytes.getD 1 0).getLsbD 0 := by
  rw [bodyNotify, ofNat_field_one]

/-- A body of the strip word's kind is the post of that kind. -/
theorem bodyPost_own {kind : Byte} {bytes : List Byte} (h : bytes.getD 0 0 = kind) :
    bodyPost kind bytes = parseBody kind bytes := by
  rw [bodyPost, bodyKind, ofNat_field_one, if_pos h]

/-- A body of another kind is no post. -/
theorem bodyPost_other {kind : Byte} {bytes : List Byte} (h : bytes.getD 0 0 ≠ kind) : bodyPost kind bytes = none := by
  rw [bodyPost, bodyKind, ofNat_field_one, if_neg h]

/-! ### The parameters at their offsets (R194) -/

theorem parseBody_profile {bytes : List Byte} {op : Byte} (h : bytes.getD 4 0 = op) : parseBody 2 bytes = some (.profile
    { op := op, key := BitVec.ofNat 16 (field bytes 8 2), source := BitVec.ofNat 64 (field bytes 12 8) }) := by
  rw [← h, ← ofNat_field_one]; rfl

theorem parseBody_cancel {bytes : List Byte} {target : Byte} (h : bytes.getD 4 0 = target) :
    parseBody 8 bytes = some (.cancel { target := target, mask := bytes.getD 5 0, slot := bytes.getD 6 0 }) := by
  rw [← h]
  simp only [← ofNat_field_one]; rfl

section
variable (bytes : List Byte)

theorem parseBody_capture : parseBody 1 bytes = some (.capture
    { buffer := BitVec.ofNat 64 (field bytes 4 8), capacity := BitVec.ofNat 32 (field bytes 12 4),
      mask := bytes.getD 16 0, endFlags := bytes.getD 17 0, timeout := BitVec.ofNat 32 (field bytes 20 4) }) := by
  rw [← ofNat_field_one, ← ofNat_field_one]; rfl

theorem mapParamsOf_eq : mapParamsOf bytes =
    { start := BitVec.ofNat 16 (field bytes 4 2), count := BitVec.ofNat 16 (field bytes 6 2), flags := bytes.getD 8 0,
      addr := BitVec.ofNat 64 (field bytes 12 8) } := by
  rw [← ofNat_field_one]; rfl

theorem parseBody_mapLoad : parseBody 3 bytes = some (.mapLoad
    { start := BitVec.ofNat 16 (field bytes 4 2), count := BitVec.ofNat 16 (field bytes 6 2), flags := bytes.getD 8 0,
      addr := BitVec.ofNat 64 (field bytes 12 8) }) := by
  rw [← mapParamsOf_eq]; rfl

theorem parseBody_mapRead : parseBody 4 bytes = some (.mapRead
    { start := BitVec.ofNat 16 (field bytes 4 2), count := BitVec.ofNat 16 (field bytes 6 2), flags := bytes.getD 8 0,
      addr := BitVec.ofNat 64 (field bytes 12 8) }) := by
  rw [← mapParamsOf_eq]; rfl

theorem parseBody_scanSetup : parseBody 5 bytes = some (.scanSetup
    { rate := bytes.getD 4 0, enables := bytes.getD 5 0, divisor := bytes.getD 6 0 }) := by
  simp only [← ofNat_field_one]; rfl

theorem parseBody_trace : parseBody 6 bytes = some (.trace
    { channel := bytes.getD 4 0, trigger := bytes.getD 5 0, pre := bytes.getD 6 0,
      post := BitVec.ofNat 16 (field bytes 8 2), level := BitVec.ofNat 16 (field bytes 10 2),
      capacity := BitVec.ofNat 32 (field bytes 12 4), dest := BitVec.ofNat 64 (field bytes 16 8) }) := by
  simp only [← ofNat_field_one]; rfl

theorem parseBody_counters : parseBody 7 bytes = some (.counters
    { dest := BitVec.ofNat 64 (field bytes 4 8), flags := bytes.getD 12 0 }) := by
  rw [← ofNat_field_one]; rfl

end

/-! ### The body read completes (R134) -/

section
variable {d : Device} {sw : Sweep} {rd : ReadInFlight} {slot : Fin 32} {rest : List (Fin 32)} {bytes : List Byte}

/-- Data of another length is no completion of the read. -/
theorem bodyArrived_otherLength (hf : d.link.inFlight = some rd) (hlen : rd.req.len ≠ bytes.length) :
    bodyArrived bytes d = d := by
  have hmatches : d.readMatches .body bytes = false := by simp [Device.readMatches, hf, hlen]
  rw [bodyArrived, if_neg (by simp [hmatches])]

variable (hf : d.link.inFlight = some rd) (hsite : rd.req.site = .body) (hlen : rd.req.len = bytes.length)
  (hs : d.intake.sweep = some sw) (hp : sw.phase = .body slot rest)
include hf hsite hlen hs hp

/-- A body that arrives settles its slot, and the sweep goes on. -/
theorem bodyArrived_settles : bodyArrived bytes d = afterRead (sweepGoesOn rest (endRead d)
    (settleBody (sw.mark slot ((bytes.getD 1 0).getLsbD 0)) (bodyPost (stripKind (sw.snapshot.getD slot.val 0)) bytes)
      (endRead d))) := by
  have hmatches : d.readMatches .body bytes = true := by simp [Device.readMatches, hf, hsite, hlen]
  have hsweep : (endRead d).intake.sweep = some sw := hs
  rw [bodyArrived, if_pos hmatches, bodyNotify_eq, bodyComplete]
  simp only [hsweep, hp]
  rfl

/-- A body of its slot's kind acts as a post found there that settles as its own does. -/
theorem bodyArrived_postFound {kind : Byte} (hk : stripKind (sw.snapshot.getD slot.val 0) = kind)
    (h0 : bytes.getD 0 0 = kind) {p q : Post} (hparse : parseBody kind bytes = some p) (hq : postKind q = kind)
    (hsame : ∀ m e, settlePost m p e = settlePost m q e) :
    bodyArrived bytes d = postFound slot ((bytes.getD 1 0).getLsbD 0) q d := by
  have hawaits : d.awaitsBody slot (postKind q) = true :=
    (awaitsBody_iff d slot _).2 ⟨sw, rest, rd, hs, hp, hk.trans hq.symm, hf, hsite⟩
  rw [bodyArrived_settles hf hsite hlen hs hp, postFound_awaited _ hawaits hs hp, hk, bodyPost_own h0, hparse]
  simp only [settleBody, hsame]

end

/-! ### What a slot settles on, with the walk still to go on (R136, R137) -/

section
variable {d : Device} {m : SlotMark} (hcalm : d.Calm) (hclear : d.isInFlight m.slot = false)
include hcalm hclear

/-- A body that is no post of its slot's kind is rejected. -/
theorem settleBody_unknownKind :
    settleBody m none (endRead d) = some ((endRead d).rejectedSlot m .unknownKind) := by
  have hreject : rejectSlot m .unknownKind (endRead d) = (endRead d).rejectedSlot m .unknownKind :=
    rejectSlot_settles (d := endRead d) (hcalm.noProducer.keep rfl rfl rfl rfl) hcalm.canIssue hcalm.buffer hclear _
  rw [settleBody, if_neg (by exact Bool.eq_false_iff.1 hclear), hreject]

/-- A slot taken and completed at once: its three writes are in the buffer, and its mark is clear again. -/
theorem takeSlot_completes {handOn : Device → Device} {st : Status} {dt : Detail} {fs : List Byte} (z : Device)
    (h : handOn (d.taking m) = completeSlot m.slot st dt fs ((d.taking m).withUnits z)) :
    takeSlot m handOn (endRead d) = ((endRead d).withUnits z).completedSlot m st dt fs := by
  have hn : ((endRead d).marked m).NoProducer := hcalm.noProducer.keep rfl rfl rfl rfl
  have hbuffer : ((endRead d).marked m).link.buffer = [] := hcalm.buffer
  have htaken : slotWriteIn (takenWrite m) ((endRead d).marked m) = d.taking m := by
    rw [slotWriteIn, enterSlotWrite_eq, hbuffer]; rfl
  have hgrants : grants (handOver [takenWrite m] ((endRead d).marked m)) = d.taking m :=
    (grantEntries_handOver hn (by simp) (by simp [hbuffer])).trans htaken
  let e : Device := setRotation m.slot ((d.taking m).withUnits z)
  have hmark : e.markOf m.slot = m := markOf_marked d m
  have hunmarked : e.intake.inFlight.filter (fun x => x.slot != m.slot) = d.intake.inFlight :=
    congrArg (fun x => x.intake.inFlight) (clearMark_marked hclear)
  have hdone := settleLink_completeSlot (d := e) (hn.keep rfl rfl rfl rfl) hcalm.canIssue (Nat.le_succ 1) m.slot st dt fs
  rw [hmark] at hdone
  rw [takeSlot, setMark_clear (d := endRead d) hclear, hgrants, h]
  refine hdone.trans ?_
  simp only [clearMark, Device.wrote, hunmarked]
  rfl

/-- A post of an idle Executor that completes as it begins. -/
theorem settleBody_completes {p : Post} {st : Status} {dt : Detail} {fs : List Byte} (z : Device)
    (hk : executorKind (postKind p) = true) (hi : d.exec = none)
    (h : beginPost m.slot p (d.taking m) = completeSlot m.slot st dt fs ((d.taking m).withUnits z)) :
    settleBody m (some p) (endRead d) = some (((endRead d).withUnits z).completedSlot m st dt fs) := by
  rw [settleBody, if_neg (by exact Bool.eq_false_iff.1 hclear), settlePost_executor hk (by exact hi)]
  exact congrArg some (takeSlot_completes hcalm hclear z h)

end

/-- A sweep that ends after its slot has settled, in a part whose link is settled: nothing follows. -/
theorem afterRead_sweepGoesOn_ends {x : Device} {rest : List (Fin 32)} (hr : x.regs.batch = false ∨ rest = [])
    (hs : x.intake.sweep.isSome = true) (hp : x.intake.promptPending = false) (hw : x.link.waiting = [])
    (hl : x.Settled) (e : Device) : afterRead (sweepGoesOn rest e (some x)) = setSweep none x := by
  rw [sweepGoesOn_ends hr, afterRead_sweepDone hs hp hw hl]

section
variable {d : Device} {sw : Sweep} {rd : ReadInFlight} {slot : Fin 32} {rest : List (Fin 32)} {bytes : List Byte}
  (hf : d.link.inFlight = some rd) (hsite : rd.req.site = .body) (hlen : rd.req.len = bytes.length)
  (hs : d.intake.sweep = some sw) (hp : sw.phase = .body slot rest)
include hf hsite hlen hs hp

/-- The sweep ends after a slot settled in SINGLE mode, or after the last slot of the walk. -/
theorem bodyArrived_ends (hprompt : d.intake.promptPending = false) (hw : d.link.waiting = [])
    (hr : d.regs.batch = false ∨ rest = []) {x : Device}
    (hx : settleBody (sw.mark slot ((bytes.getD 1 0).getLsbD 0)) (bodyPost (stripKind (sw.snapshot.getD slot.val 0)) bytes)
      (endRead d) = some x) (hb : d.Begun x) : bodyArrived bytes d = setSweep none x := by
  have hsweep : x.intake.sweep.isSome = true := by rw [hb.sweep, hs]; rfl
  rw [bodyArrived_settles hf hsite hlen hs hp, hx, afterRead_sweepGoesOn_ends (by rw [hb.batch]; exact hr) hsweep
    (hb.prompt.trans hprompt) (hb.waiting.trans hw) hb.settled]

variable (hcalm : d.Calm) (hclear : d.isInFlight slot = false)
include hcalm hclear

/-- A body of another kind is rejected, and the sweep ends. -/
theorem bodyArrived_otherKind (hprompt : d.intake.promptPending = false) (hr : d.regs.batch = false ∨ rest = [])
    (h0 : bytes.getD 0 0 ≠ stripKind (sw.snapshot.getD slot.val 0)) :
    bodyArrived bytes d = d.swept.rejectedSlot (sw.mark slot ((bytes.getD 1 0).getLsbD 0)) .unknownKind := by
  let m := sw.mark slot ((bytes.getD 1 0).getLsbD 0)
  have hx := settleBody_unknownKind (m := m) hcalm hclear
  rw [← bodyPost_other h0] at hx
  exact bodyArrived_ends hf hsite hlen hs hp hprompt hcalm.waiting hr hx
    ⟨rfl, rfl, rfl, rfl, hcalm.noProducer.keep rfl rfl rfl rfl, .inr rfl⟩

variable (hi : d.exec = none) {p : Post} (hpost : bodyPost (stripKind (sw.snapshot.getD slot.val 0)) bytes = some p)
  (hk : executorKind (postKind p) = true)
include hi hpost hk

/-- A body that an idle Executor completes as it begins, and the sweep ends. -/
theorem bodyArrived_completes (hprompt : d.intake.promptPending = false) (hr : d.regs.batch = false ∨ rest = [])
    {st : Status} {dt : Detail} {fs : List Byte} (z : Device)
    (hb : beginPost slot p (d.taking (sw.mark slot ((bytes.getD 1 0).getLsbD 0)))
      = completeSlot slot st dt fs ((d.taking (sw.mark slot ((bytes.getD 1 0).getLsbD 0))).withUnits z)) :
    bodyArrived bytes d = (d.swept.withUnits z).completedSlot (sw.mark slot ((bytes.getD 1 0).getLsbD 0)) st dt fs := by
  let m := sw.mark slot ((bytes.getD 1 0).getLsbD 0)
  have hx := settleBody_completes (m := m) hcalm hclear z hk hi hb
  rw [← hpost] at hx
  exact bodyArrived_ends hf hsite hlen hs hp hprompt hcalm.waiting hr hx
    ⟨rfl, rfl, rfl, rfl, hcalm.noProducer.keep rfl rfl rfl rfl, .inr rfl⟩

/-- In BATCH mode the walk goes on to the next slot, whose body, of an Executor kind, is read (R135). -/
theorem bodyArrived_goesOn (hbatch : d.regs.batch = true) {next : Fin 32} {more : List (Fin 32)}
    (hrest : rest = next :: more) (he : sw.ending = false) {kind : Byte} (hposted : stripState (sw.snapshot.getD next.val 0) = 1)
    (hkind : stripKind (sw.snapshot.getD next.val 0) = kind) (hexecutor : executorKind kind = true) (hheld : next ∉ sw.held)
    (hnext : d.isInFlight next = false) {st : Status} {dt : Detail} {fs : List Byte} (z : Device)
    (hb : beginPost slot p (d.taking (sw.mark slot ((bytes.getD 1 0).getLsbD 0)))
      = completeSlot slot st dt fs ((d.taking (sw.mark slot ((bytes.getD 1 0).getLsbD 0))).withUnits z)) :
    bodyArrived bytes d
      = (((endRead d).withUnits z).completedSlot (sw.mark slot ((bytes.getD 1 0).getLsbD 0)) st dt fs).readingBody sw next
        more := by
  let m := sw.mark slot ((bytes.getD 1 0).getLsbD 0)
  let x := ((endRead d).withUnits z).completedSlot m st dt fs
  have hx : settleBody m (some p) (endRead d) = some x := settleBody_completes (m := m) hcalm hclear z hk hi hb
  obtain ⟨h2, h9, h6⟩ := executorKind_iff.1 hexecutor
  have hroom : x.noRoom kind = false := by
    have hidle : x.exec = none := hi
    rw [Bool.eq_false_iff, ne_eq, noRoom_iff, hidle]
    rintro (⟨rfl, -⟩ | ⟨-, -, -, h⟩)
    · exact absurd h2 (by decide)
    · exact h rfl
  have hvisit : visit sw next x = .readBody :=
    visit_reads hkind hposted hheld hnext (Nat.le_of_succ_le h2) h9 hroom fun h => absurd h h6
  have hwalk : afterRead (walk (next :: more) x) = x.readingBody sw next more :=
    afterRead_walk_reads (d := x) hcalm.live hcalm.waiting rfl hcalm.canIssue
      ⟨hcalm.noProducer.keep rfl rfl rfl rfl, .inr rfl⟩ hs he hvisit more
  have hgoes : sweepGoesOn (next :: more) (endRead d) (some x) = walk (next :: more) x := if_pos hbatch
  rw [bodyArrived_settles hf hsite hlen hs hp, hpost, hx, hrest, hgoes, hwalk]

end

/-! ### The posts completed as they begin, by their bodies' fields -/

theorem executorKind_clockSet {v : BitVec 32} : executorKind (postKind (.clockSet v)) = true :=
  show executorKind 9 = true by decide

/-- CLOCK_SET answers the clock it found and the one it set. -/
theorem beginClockSet_field (bytes : List Byte) (slot : Fin 32) (d : Device) :
    beginClockSet slot (BitVec.ofNat 32 (field bytes 4 4)) d
      = completeSlot slot .ok .none (le 4 d.clock.toNat ++ le 4 (field bytes 4 4))
        { d with clock := BitVec.ofNat 32 (field bytes 4 4) } := by
  have hvalue : (BitVec.ofNat 32 (field bytes 4 4)).toNat = field bytes 4 4 := toNat_ofNat_field bytes 4 4
  rw [beginClockSet, hvalue]; rfl

/-- A PROFILE of an operation that is none of the four is rejected. -/
theorem beginProfile_otherOp {bytes : List Byte} {op : Byte} {source : Addr} (h : op = 0 ∨ 4 < op.toNat) (slot : Fin 32)
    (d : Device) :
    beginProfile slot { op := op, key := BitVec.ofNat 16 (field bytes 8 2), source := source } d
      = completeSlot slot .rejected .range
        ([0] ++ le 1 d.profiles.entries.length ++ [0, 0] ++ le 2 (field bytes 8 2) ++ [0]) d := by
  have hkey : (BitVec.ofNat 16 (field bytes 8 2)).toNat = field bytes 8 2 := toNat_ofNat_field bytes 8 2
  rw [← BitVec.toNat_inj] at h
  unfold beginProfile
  split
  case h_5 => simp only [rejectProfile, completeAtOnce, profileFields, hkey]; rfl
  all_goals (next hop => simp only at hop; rw [hop] at h; simp at h)

/-- A CANCEL of a target that is none of the three is rejected. -/
theorem beginCancel_otherTarget {q : CancelParams} (h : q.target = 0 ∨ 3 < q.target.toNat) (slot : Fin 32) (d : Device) :
    beginCancel slot q d = completeSlot slot .rejected .range [] d := by
  rw [← BitVec.toNat_inj] at h
  unfold beginCancel
  split
  case h_4 => rfl
  all_goals (next htarget => rw [htarget] at h; simp at h)

/-- Settles O31. -/
theorem bodyReadSettlesSlot : Obligations.BodyReadSettlesSlot := by
  intro s bytes sw rd slot rest hf hsite hlen hs hp kind notify n byte acts m
  refine ⟨fun hother => effect_next (bodyArrived_otherLength hf (by rw [hlen]; exact Ne.symm hother)),
    fun h64 h0 => ?own, fun h64 hfinds => ?settles, ?goesOn⟩
  case own =>
    intro map key source
    have found : ∀ {k : Byte} {p q : Post}, kind = k → parseBody k bytes = some p → postKind q = k →
        (∀ m e, settlePost m p e = settlePost m q e) →
        exec (.bodyReadComplete bytes) s = effect (postFound slot notify q) s := fun hk hparse hq hsame =>
      effect_next (bodyArrived_postFound hf hsite (hlen.trans h64.symm) hs hp hk (h0.trans hk) hparse hq hsame)
    exact ⟨fun hk => found hk (parseBody_capture bytes) rfl fun _ _ => rfl,
      fun hk h4 => found hk (parseBody_profile h4) rfl fun _ _ => rfl,
      fun hk h4 => found hk (parseBody_profile h4) rfl fun _ _ => rfl,
      fun hk h4 => found hk (parseBody_profile h4) rfl fun _ _ => rfl,
      fun hk h4 => found hk (parseBody_profile h4) rfl fun _ _ => rfl,
      fun hk => found hk (parseBody_mapLoad bytes) rfl fun _ _ => rfl,
      fun hk => found hk (parseBody_mapRead bytes) rfl fun _ _ => rfl,
      fun hk => found hk (parseBody_scanSetup bytes) rfl fun _ _ => rfl,
      fun hk => found hk (parseBody_trace bytes) rfl fun _ _ => rfl,
      fun hk => found hk (parseBody_counters bytes) rfl fun _ _ => rfl,
      fun hk h4 => found hk (parseBody_cancel h4) rfl fun _ _ => rfl,
      fun hk h4 => found hk (parseBody_cancel h4) rfl fun _ _ => rfl,
      fun hk h4 => found hk (parseBody_cancel h4) rfl fun _ _ => rfl,
      fun hk => found hk rfl rfl fun _ _ => rfl⟩
  case settles =>
    have hcalm := hfinds.calm
    refine ⟨fun hr hother => effect_next (bodyArrived_otherKind hf hsite (hlen.trans h64.symm) hs hp hcalm hfinds.clear
      hfinds.unprompted hr hother), fun hr h0 hi => ?_⟩
    have completes : ∀ {p : Post} {st : Status} {dt : Detail} {fs : List Byte} (z : Device),
        parseBody kind bytes = some p → executorKind (postKind p) = true →
        beginPost slot p (s.dev.taking m) = completeSlot slot st dt fs ((s.dev.taking m).withUnits z) →
        exec (.bodyReadComplete bytes) s = .next { s with dev := (s.dev.swept.withUnits z).completedSlot m st dt fs } :=
      fun z hparse hk hb => effect_next (bodyArrived_completes hf hsite (hlen.trans h64.symm) hs hp hcalm hfinds.clear hi
        ((bodyPost_own h0).trans hparse) hk hfinds.unprompted hr z hb)
    intro rejected set
    refine ⟨fun hk => ?clock, fun hk hop => ?profile, fun hk htarget => ?cancel⟩
    case clock =>
      exact completes set ((congrArg (parseBody · bytes) hk).trans rfl) executorKind_clockSet (beginClockSet_field bytes _ _)
    case profile =>
      exact completes s.dev ((congrArg (parseBody · bytes) hk).trans (parseBody_profile rfl)) (executorKind_profile _)
        (beginProfile_otherOp hop _ _)
    case cancel =>
      exact completes s.dev ((congrArg (parseBody · bytes) hk).trans (parseBody_cancel rfl))
        (show executorKind 8 = true by decide) (beginCancel_otherTarget htarget _ _)
  case goesOn =>
    intro next more h64 hcalm hclear hbatch hrest hne he h0 hk hi hposted hkind hheld hnext rd' set
    let z : Device := { s.dev with clock := BitVec.ofNat 32 (n 4 4) }
    have hpost : bodyPost kind bytes = some (.clockSet (BitVec.ofNat 32 (n 4 4))) := by rw [bodyPost_own h0, hk]; rfl
    exact effect_next (bodyArrived_goesOn hf hsite (hlen.trans h64.symm) hs hp hcalm hclear hi hpost executorKind_clockSet
      hbatch hrest he hposted hkind (by decide) hheld hnext z (beginClockSet_field bytes _ _))

end Sys2Proof.Machine
end

section
/-!
PROOFS. The queue of commands: a step runs the front one, and no command faults, is refused or touches the queue (log entries
5, 12).
-/
namespace Sys2Proof.Machine

open Sys2Proof

/-- Settles O1, by the two cases of step. -/
theorem stepRunsFrontCommand : Obligations.StepRunsFrontCommand := ⟨fun _ _ _ => rfl, fun _ => rfl⟩

/-- The meaning of every command is an effect on the part alone: each arm of the dispatch is one. -/
theorem exec_eq_effect (i : Instr) : ∃ f, ∀ s, Machine.exec i s = effect f s := by
  cases i <;> exact ⟨_, fun _ => rfl⟩

/-- Settles O2: an effect on the part answers a next state with the queue as it was. -/
theorem everyCommandCompletes : Obligations.EveryCommandCompletes := by
  intro i s
  obtain ⟨f, hf⟩ := exec_eq_effect i
  exact ⟨onDevice f s, (hf s).trans (effect_eq f s), onDevice_pending f s⟩

end Sys2Proof.Machine
end

section
/-!
PROOFS. The message interrupt's configuration, and completion data of a read that has ended (R157, R160, R180).
-/
namespace Sys2Proof.Machine

open Sys2Proof

/-- A message is pending, and nothing keeps it from going out (R180). -/
def Device.MessageDue (d : Device) : Prop :=
  d.regs.msgPending = true ∧ d.regs.event &&& d.regs.mask ≠ 0 ∧ d.link.inputs.msiOn = true
    ∧ d.link.inputs.up = true ∧ d.link.inputs.mastering = true

theorem sendPending_due {d : Device} (h : d.MessageDue) : sendPending d = sendMessage d := by
  obtain ⟨hp, hc, hon, hup, hm⟩ := h
  have hcond : d.regs.condition = true := by simpa [Registers.condition] using hc
  simp [sendPending, LinkPort.canIssue, hp, hcond, hon, hup, hm]

theorem sendPending_notDue {d : Device} (h : ¬d.MessageDue) : sendPending d = d := by
  refine if_neg fun hsend => h ?_
  simpa [Device.MessageDue, Registers.condition, LinkPort.canIssue, and_assoc] using hsend

/-- A message that goes out leaves the line as it was. -/
@[simp] theorem sendPending_line (d : Device) : (sendPending d).line = d.line := by
  unfold sendPending
  split <;> rfl

theorem Device.line_iff (d : Device) : d.line = true ↔ d.link.inputs.msiOn = false ∧ d.regs.event &&& d.regs.mask ≠ 0 := by
  simp [Device.line, Registers.condition]

/-- Settles O49, by whether a message is due under the new configuration. -/
theorem staleDataAndMessageEnable : Obligations.StaleDataAndMessageEnable := by
  intro s bytes on addr data
  refine ⟨effect_next (f := staleData bytes) rfl, ?_⟩
  intro inputs due
  let configured : Device := { s.dev with link := { s.dev.link with inputs := inputs } }
  refine ⟨{ s with dev := sendPending configured }, effect_next rfl, fun hno => ?notDue, fun hdue => ?due, ?line⟩
  case notDue => rw [sendPending_notDue (d := configured) hno]
  case due => rw [sendPending_due (d := configured) hdue]; rfl
  case line => exact (sendPending_line configured).symm ▸ configured.line_iff

end Sys2Proof.Machine
end

section
/-!
PROOFS. LINK_DOWN (R165 to R167): the fault of a read in flight, or of a buffer that holds a write.
-/
namespace Sys2Proof.Machine

open Sys2Proof

/-- Whether the head is being issued stays as it was at an entry into HALTED. -/
theorem enterHalted_issued (d : Device) : (enterHalted d).link.issued = d.link.issued := by
  let x := faultSweep { d with link := { d.link with halted := true, inFlight := none, waiting := [] } }
  obtain ⟨_, _, _, _, _, _, hexec, -⟩ := faultExec_frame x
  obtain ⟨_, -, htrace⟩ := faultTrace_frame (pauseTimers (faultExec x))
  calc (enterHalted d).link.issued
      = (faultTrace (pauseTimers (faultExec x))).link.issued := (Device.Feeds.grants _).issued
    _ = (faultExec x).link.issued := by rw [htrace]; rfl
    _ = d.link.issued := by rw [hexec]; rfl

/-- It stays so at a fault, which ends in one. -/
theorem raiseFault_issued (cls : FaultClass) (site : Site) (slot : Option (Fin 32)) (d : Device) :
    (raiseFault cls site slot d).link.issued = d.link.issued := by
  obtain ⟨_, _, hcause⟩ := setCause_frame .fault (recordFault cls site slot d)
  rw [raiseFault, enterHalted_issued, hcause, recordFault_eq]

/-- A read is in flight at this site and slot; or none is, and the buffer holds a write, whose site is DRAIN (R165, R166). -/
def Device.DownFaultsAt (d : Device) (site : Site) (slot : Option (Fin 32)) : Prop :=
  (∃ f, d.link.inFlight = some f ∧ f.req.site = site ∧ f.req.slot = slot)
    ∨ (d.link.inFlight = none ∧ d.link.buffer ≠ [] ∧ site = .drain ∧ slot = none)

section
variable {d : Device}

theorem linkFalls_down (h : d.link.inputs.up = false) : linkFalls d = d := by
  simp [linkFalls, h]

/-- The link goes DOWN without a fault while HALTED, or with nothing at the link (R165, R166, R169). -/
theorem linkFalls_quiet (hup : d.link.inputs.up = true)
    (h : d.link.halted = true ∨ (d.link.inFlight = none ∧ d.link.buffer = [])) :
    linkFalls d = { d with link := { d.link with inputs := { d.link.inputs with up := false }, issued := false } } := by
  have hquiet : downFault (setLinkState false d) = setLinkState false d := by
    rcases h with hh | ⟨hf, hb⟩
    · exact if_pos hh
    · simp [downFault, setLinkState, hf, hb]
  rw [linkFalls, if_pos hup, hquiet]
  simp [setLinkState]

/-- The link goes DOWN with a fault, and the read in flight, if there is one, ends (R165 to R167). -/
theorem linkFalls_faults (hup : d.link.inputs.up = true) (hh : d.link.halted = false) {site : Site} {slot : Option (Fin 32)}
    (h : d.DownFaultsAt site slot) : linkFalls d = raiseFault .linkDown site slot (endRead (setLinkState false d)) := by
  rw [linkFalls, if_pos hup]
  rcases h with ⟨f, hf, rfl, rfl⟩ | ⟨hf, hb, rfl, rfl⟩
  · simp [downFault, readFault, setLinkState, hh, hf]
  · have hend : endRead (setLinkState false d) = setLinkState false d := by simp [endRead, setLinkState, hf]
    rw [hend]
    simp [downFault, setLinkState, hh, hf, hb]

end

/-- Settles O47: where a fault is raised, the entry into HALTED says what is left (R169). -/
theorem linkDownFaults : Obligations.LinkDownFaults := by
  intro s
  refine ⟨fun hdown => effect_next (linkFalls_down hdown), fun hup => ⟨fun hquiet => effect_next (linkFalls_quiet hup hquiet),
    fun site slot hh hat => ?faults⟩⟩
  case faults =>
    obtain ⟨sent, msg, h⟩ := raiseFault_halts .linkDown site slot (endRead (setLinkState false s.dev))
    have hissued := raiseFault_issued .linkDown site slot (endRead (setLinkState false s.dev))
    rw [← linkFalls_faults hup hh hat] at h hissued
    obtain ⟨bits, hevent⟩ := h.event
    refine ⟨_, effect_next rfl, rfl, congrArg (·.inputs.up) h.kept, h.halted, ?event, fun hnone => ?first, fun e he => ?kept,
      h.reads.1, ?issued, h.buffer, h.delivery, congrArg Kept.scan h.kept, congrArg Kept.chans h.kept⟩
    case event => rw [hevent]; simp [Device.faulted]
    case first => rw [h.record]; simp [Device.faulted, endRead, setLinkState, hnone]
    case kept => rw [h.record]; simp [Device.faulted, endRead, setLinkState, he]
    case issued => rw [hissued]; simp [endRead, setLinkState]

end Sys2Proof.Machine
end

section
/-!
PROOFS. The link or the mastering enable that returns (R166, R170, R180): the grants feed the buffer, the head is issued and a
pending message goes out.
-/
namespace Sys2Proof.Machine

open Sys2Proof

/-! ### What no grant touches (R161 to R163) -/

/-- The part with everything blanked that a grant may touch: the buffer and its producers, the marks, the map port and the
counters. -/
def Device.ungranted (d : Device) : Device :=
  { d with
    link := { d.link with buffer := [], slotQueue := [] }
    intake := { d.intake with inFlight := [] }
    delivery := { holding := [], captures := [] }
    map := State.reset.dev.map
    trace := none
    exec := none
    counters := Counters.zero }

@[simp] theorem ungranted_placeIn (c : Capture) (r : Record) (d : Device) : (placeIn c r d).ungranted = d.ungranted := by
  unfold placeIn settleCapture
  split <;> rfl

theorem ungranted_drainGo (q : List Record) : ∀ (b : PerChannel Bool) (d : Device),
    (drainGo q b d).2.ungranted = d.ungranted := by
  induction q with
  | nil => exact fun _ _ => rfl
  | cons r rest ih =>
    intro b d
    unfold drainGo
    split
    · exact ih _ _
    · split
      · exact ih _ _
      · split
        · rw [ih, ungranted_placeIn]
        · rfl

@[simp] theorem ungranted_offerDrain (d : Device) : (offerDrain d).ungranted = d.ungranted := by
  unfold offerDrain drainWalk
  split
  · split
    · rfl
    · exact ungranted_drainGo _ _ d
  · rfl

@[simp] theorem ungranted_completePost (st : Status) (dt : Detail) (fs : List Byte) (d : Device) :
    (completePost st dt fs d).ungranted = d.ungranted := by
  unfold completePost
  split <;> rfl

@[simp] theorem ungranted_requestExec (d : Device) : (requestExec d).ungranted = d.ungranted := by
  obtain ⟨m, hm⟩ := arbitrate_frame { d with map := { d.map with execWaiting := true } }
  rw [requestExec, hm]; rfl

theorem ungranted_bulkGrant {d d' : Device} (h : bulkGrant d = some d') : d'.ungranted = d.ungranted := by
  unfold bulkGrant at h
  split at h
  · split at h
    · cases h
      unfold bulkMapRead
      simp only
      split
      · rw [ungranted_completePost]; rfl
      · rw [ungranted_requestExec]; rfl
    · cases h
  · cases h
    unfold bulkCounters
    rw [ungranted_completePost]
    split <;> rfl
  · cases h

theorem ungranted_grantOne {d d' : Device} (h : grantOne d = some d') : d'.ungranted = d.ungranted := by
  unfold grantOne grantBelowDrain at h
  split at h
  · split at h
    · cases h; rw [enterSlotWrite_eq]; rfl
    · split at h
      · split at h
        · cases h; unfold stageOut; simp only; split <;> rfl
        · exact ungranted_bulkGrant h
      · exact ungranted_bulkGrant h
  · cases h

theorem ungranted_grantEntries (n : Nat) : ∀ d : Device, (grantEntries n d).ungranted = d.ungranted := by
  induction n with
  | zero => exact fun _ => rfl
  | succ n ih =>
    intro d
    unfold grantEntries
    split
    · next hg => rw [ih, ungranted_grantOne hg, ungranted_offerDrain]
    · exact ungranted_offerDrain d

@[simp] theorem ungranted_grants (d : Device) : (grants d).ungranted = d.ungranted := ungranted_grantEntries 4 d

/-! ### The link takes accesses again (R166, R170) -/

/-- With the link taking accesses the settling is the grants and the head's issue: nothing changes that neither touches, and a
head there was is being issued. -/
theorem settleLink_canIssue {d : Device} (hc : d.link.canIssue = true) : ∃ issued,
    (settleLink d).ungranted = { d.ungranted with link := { d.ungranted.link with issued := issued } }
    ∧ d.link.buffer <+: (settleLink d).link.buffer ∧ (d.link.buffer ≠ [] → issued = true) := by
  have hfeeds := Device.Feeds.grants d
  have hinputs : (grants d).link.inputs = d.link.inputs := congrArg Kept.inputs (kept_grants d)
  obtain ⟨issued, hissue, hhead⟩ := issueHead_canIssue (d := grants d) (by rw [LinkPort.canIssue, hinputs]; exact hc)
  refine ⟨issued, ?_, ?_, hhead ∘ hfeeds.buffer_ne_nil⟩
  · rw [settleLink, hissue, ← ungranted_grants d]; rfl
  · rw [settleLink, hissue]; exact hfeeds.buffer

/-- The part with the link ACTIVE and mastering enabled. -/
def Device.linked (d : Device) : Device :=
  { d with link := { d.link with inputs := { d.link.inputs with up := true, mastering := true } } }

theorem linkRises_linked {d : Device} (h : d.link.inputs.mastering = true) : linkRises d = settleLink (sendPending d.linked) := by
  have hset : setLinkState true d = d.linked := by simp [setLinkState, Device.linked, ← h]
  rw [linkRises, hset]

theorem masteringChange_linked {d : Device} (h : d.link.inputs.up = true) :
    masteringChange true d = settleLink (sendPending d.linked) := by
  simp only [masteringChange, Device.linked, ← h]

/-- The part with what has gone out on the link, and whether a message is pending. -/
def Device.told (d : Device) (sent : List LinkOut) (msg : Bool) : Device :=
  { d with link := { d.link with sent := sent }, regs := { d.regs with msgPending := msg } }

/-- A message that is due goes out and is pending no more; what else there is stays. -/
theorem sendPending_frame (d : Device) : ∃ sent msg, sendPending d = d.told sent msg
    ∧ (d.MessageDue → msg = false ∧ sent = .message d.link.inputs.msiAddr d.link.inputs.msiData :: d.link.sent) := by
  by_cases h : d.MessageDue
  · exact ⟨_, false, sendPending_due h, fun _ => ⟨rfl, rfl⟩⟩
  · exact ⟨d.link.sent, d.regs.msgPending, sendPending_notDue h, fun h' => absurd h' h⟩

/-- Mastering disabled in a calm part leaves no message that can go out and no write to be issued. -/
theorem masteringChange_calm {d : Device} (h : d.Calm) : masteringChange false d =
    { d with link := { d.link with inputs := { d.link.inputs with mastering := false } } } := by
  let off : Device := { d with link := { d.link with inputs := { d.link.inputs with mastering := false } } }
  have hsend : sendPending off = off := sendPending_notDue fun ⟨_, _, _, _, hm⟩ => Bool.false_ne_true hm
  have hsettled : off.Settled := ⟨h.noProducer.keep rfl rfl rfl rfl, .inl h.buffer⟩
  rw [masteringChange, hsend, settleLink_settled hsettled]

/-- Settles O48: both commands leave the link ACTIVE with mastering enabled, then send what is pending and settle. -/
theorem linkReturnIssuesHead : Obligations.LinkReturnIssuesHead := by
  intro s
  refine ⟨fun i hi => ?returns, fun hcalm => effect_next (masteringChange_calm hcalm)⟩
  case returns =>
    have hexec : Machine.exec i s = .next { s with dev := settleLink (sendPending s.dev.linked) } := by
      rcases hi with ⟨rfl, hm⟩ | ⟨rfl, hup⟩
      · exact effect_next (linkRises_linked hm)
      · exact effect_next (masteringChange_linked hup)
    obtain ⟨sent, msg, hsend, hdue⟩ := sendPending_frame s.dev.linked
    rw [hsend] at hexec
    obtain ⟨issued, hrest, hbuffer, hissued⟩ := settleLink_canIssue (d := s.dev.linked.told sent msg) rfl
    generalize settleLink (s.dev.linked.told sent msg) = d at hexec hrest hbuffer
    have hregs := congrArg Device.regs hrest
    have hlink := congrArg Device.link hrest
    refine ⟨_, hexec, rfl, (congrArg LinkPort.inputs hlink :), hbuffer,
      fun hne => (congrArg LinkPort.issued hlink :).trans (hissued hne), fun hp hc hon => ?message,
      (congrArg LinkPort.halted hlink :), (congrArg Registers.event hregs :), (congrArg LinkPort.faultRecord hlink :),
      (congrArg Device.scan hrest :), (congrArg Device.chans hrest :)⟩
    case message =>
      obtain ⟨hmsg, hsent⟩ := hdue ⟨hp, hc, hon, rfl, rfl⟩
      exact ⟨(congrArg Registers.msgPending hregs).trans hmsg, (congrArg LinkPort.sent hlink).trans hsent⟩

end Sys2Proof.Machine
end

section
/-!
PROOFS. CLOCK_SET and COUNTERS, found by a sweep (R141, R162, R183 to R185, R200): the clock set, and the counter block written
before the post's result.
-/
namespace Sys2Proof.Machine

open Sys2Proof

theorem executorKind_counters {p : CountersParams} : executorKind (postKind (.counters p)) = true :=
  show executorKind 7 = true by decide

section
variable {d : Device} {slot : Fin 32}

/-- The COUNTERS result: CLEAR's effect, three bytes 0, and the clock (R195). -/
theorem countersFields_eq (clear : Bool) (clock : Micros) :
    countersFields clear clock = [if clear then 1 else 0, 0, 0, 0] ++ le 4 clock.toNat := by
  cases clear <;> rfl

theorem beginCounters_unaligned {p : CountersParams} (h : p.dest.toNat % 32 ≠ 0) :
    beginCounters slot p d = completeSlot slot .rejected .align [] d :=
  if_neg (mt (aligned_iff 32 p.dest).1 h)

theorem beginCounters_waits {p : CountersParams} (h : p.dest.toNat % 32 = 0) :
    beginCounters slot p d = setCurrent slot (.counters p.dest (p.flags.getLsbD 0)) d :=
  if_pos ((aligned_iff 32 p.dest).2 h)

/-- A COUNTERS post that no other producer keeps from its bulk entry, with room behind it: the block, the result and DONE
stand in the buffer, and CLEAR has set the counters to 0 (R162, R185). -/
theorem settleLink_countersBlock {dest : Addr} {clear : Bool} (hn : d.NoProducer) (hc : d.link.canIssue = true)
    (hb : d.link.buffer.length ≤ 1) (he : d.exec = none) :
    settleLink (setCurrent slot (.counters dest clear) d)
      = Device.wrote { clearMark slot d with counters := if clear then Counters.zero else d.counters }
        (d.link.buffer ++ [countersBlock dest d.counters,
          resultWrite (d.markOf slot) .ok .none (countersFields clear d.clock), doneWrite (d.markOf slot)]) := by
  let current := setCurrent slot (.counters dest clear) d
  let copied : Device :=
    { enterBuffer (countersBlock dest d.counters) d with counters := if clear then Counters.zero else d.counters }
  have hbulk : bulkCounters dest clear current
      = completeSlot slot .ok .none (countersFields clear d.clock) copied := by
    rw [bulkCounters_eq (d := current) rfl]
    show completeSlot slot .ok .none (countersFields clear d.clock) { copied with exec := none } = _
    rw [← he]
    rfl
  have hbelow : grantBelowDrain current = some (bulkCounters dest clear current) :=
    (grantBelowDrain_bulk (d := current) hn.slotQueue hn.staging).trans (bulkGrant_counters rfl)
  have hroom : copied.link.buffer.length ≤ 2 := by simpa [copied, enterBuffer] using hb
  have hdone := grantEntries_completeSlot (n := 3) (d := copied) (hn.keep rfl rfl rfl rfl) hroom (by decide) slot .ok .none
    (countersFields clear d.clock)
  have hgrants : grants current = grantEntries 3 (bulkCounters dest clear current) :=
    grantEntries_below (d := current) hn.drain (Nat.lt_of_le_of_lt hb (by decide)) hbelow 3
  rw [settleLink, hgrants, hbulk, hdone, issueHead_issues (by exact hc) (by simp)]
  simp only [copied, enterBuffer, List.append_assoc, List.cons_append, List.nil_append]
  rfl

/-- A COUNTERS post whose destination is aligned: its block goes out before its result (R185). -/
theorem postFound_counters {p : CountersParams} (h : d.Open slot 7) (notify : Bool) (ha : p.dest.toNat % 32 = 0) :
    let m := d.foundMark slot 7 notify
    let clear := p.flags.getLsbD 0
    postFound slot notify (.counters p) d
      = (Device.rotated { d.swept with counters := if clear then Counters.zero else d.counters } slot).wrote
        [takenWrite m, countersBlock p.dest d.counters, resultWrite m .ok .none (countersFields clear d.clock),
          doneWrite m] := by
  intro m clear
  let begun : Device := setRotation slot (d.taking m)
  have hn : begun.NoProducer := (h.finds.taking_noProducer m).keep rfl rfl rfl rfl
  have hmark : begun.markOf slot = m := markOf_marked d m
  have hunmarked : begun.intake.inFlight.filter (fun x => x.slot != slot) = d.intake.inFlight :=
    h.finds.taking_unmarked notify
  have hsettle := settleLink_countersBlock (slot := slot) (dest := p.dest) (clear := clear) hn
    (h.finds.taking_canIssue m) (Nat.le_refl 1) h.idle
  rw [hmark] at hsettle
  have hbegins : setRotation slot (beginPost slot (.counters p) (d.taking m))
      = setCurrent slot (.counters p.dest clear) begun := congrArg (setRotation slot) (beginCounters_waits ha)
  rw [postFound_takes (p := .counters p) h notify executorKind_counters ((congrArg settleLink hbegins).trans hsettle)
    ⟨rfl, rfl, rfl, rfl, hn.keep rfl rfl rfl rfl, .inr rfl⟩]
  simp only [setSweep, clearMark, Device.wrote, hunmarked]
  rfl

end

/-- Settles O42. -/
theorem clockSetAndCounters : Obligations.ClockSetAndCounters := by
  intro s slot notify value p
  refine ⟨fun hopen => effect_next ?clock, fun hopen => ⟨fun ha => effect_next ?unaligned, fun ha => ?block⟩⟩
  case clock =>
    exact postFound_completesChanged (p := .clockSet value) { s.dev with clock := value } hopen notify
      executorKind_clockSet rfl
  case unaligned =>
    exact postFound_completes (p := .counters p) hopen notify executorKind_counters (beginCounters_unaligned ha)
  case block =>
    obtain ⟨hlength, hwords⟩ := Counters.image_words s.dev.counters
    refine ⟨countersBlock p.dest s.dev.counters, rfl, rfl, hlength, hwords, effect_next ?_⟩
    rw [← countersFields_eq]
    exact postFound_counters hopen notify ha

end Sys2Proof.Machine
end

section
/-!
PROOFS. MASK_WRITE (R176, R180): the interrupt condition tested under the new mask.
-/
namespace Sys2Proof.Machine

open Sys2Proof

/-- MASK_WRITE with a word its row allows is that CONTROL write. -/
theorem exec_maskWrite {w : BitVec 32} (h : (Instr.maskWrite w).wf = true) (s : State) :
    Sys2Proof.Machine.exec (.maskWrite w) s = .next (onDevice (controlWrite w) s) := by
  simp only [Instr.wf, Bool.not_eq_true'] at h
  show Host.Outcome.next (onDevice (controlWrite (withoutReset w)) s) = _
  rw [withoutReset_eq h]

theorem Registers.condition_iff (r : Registers) : r.condition = true ↔ r.event &&& r.mask ≠ 0 := by
  simp [Registers.condition]

theorem Registers.condition_eq_false_iff (r : Registers) : r.condition = false ↔ r.event &&& r.mask = 0 := by
  simp [Registers.condition]

/-! ### The interrupt test, by the condition before and after (R180) -/

section
variable {held : Bool} {d : Device}

/-- Where the condition does not hold no message is pending. -/
theorem testInterrupt_drops (h : d.regs.condition = false) :
    testInterrupt held d = { d with regs := { d.regs with msgPending := false } } :=
  if_neg (by simp [h])

/-- A condition that goes on holding sends nothing. -/
theorem testInterrupt_goesOn (h : d.regs.condition = true) : testInterrupt true d = d := if_pos h

/-- A condition that comes to hold with message interrupts enabled makes a message due. -/
theorem testInterrupt_due (h : d.regs.condition = true) (hon : d.link.inputs.msiOn = true) :
    testInterrupt false d = messageDue d := by
  simp [testInterrupt, h, hon]

end

/-! ### The mask alone (R176) -/

/-- The part under another interrupt mask. -/
def Device.masked (d : Device) (mask : BitVec 4) : Device := { d with regs := { d.regs with mask := mask } }

/-- A CONTROL write that changes the mask alone is the interrupt test under the new mask. -/
theorem controlWrite_masked {w : BitVec 32} {d : Device} (h0 : w.getLsbD 0 = d.regs.run) (h1 : w.getLsbD 1 = d.regs.intake)
    (h2 : w.getLsbD 2 = d.regs.batch) (h3 : w.getLsbD 3 = false) :
    controlWrite w d = testInterrupt d.regs.condition (d.masked (w.extractLsb' 8 4)) := by
  have hfields : controlFields w d = testInterrupt d.regs.condition (d.masked (w.extractLsb' 8 4)) := by
    simp only [controlFields, setEventMask, h0, h1, h2]
    rfl
  obtain ⟨sent, msg, hframe⟩ := testInterrupt_frame d.regs.condition (d.masked (w.extractLsb' 8 4))
  refine controlWrite_eq h3 (fun hi => h1.trans hi) ?_ (by rw [hframe]; exact h1.symm)
  rw [hfields]
  exact runEdge_none (.inl (by rw [hframe]; exact id))

/-- Settles O10, by the condition under the mask before and after. -/
theorem maskWriteTestsCondition : Obligations.MaskWriteTestsCondition := by
  intro s w hwf h3 h0 h1 h2
  let masked := s.dev.masked (w.extractLsb' 8 4)
  have hexec : Sys2Proof.Machine.exec (.maskWrite w) s
      = .next { s with dev := testInterrupt s.dev.regs.condition masked } := by
    rw [exec_maskWrite hwf, onDevice, controlWrite_masked h0 h1 h2 h3]
  obtain ⟨sent, msg, hframe⟩ := testInterrupt_frame s.dev.regs.condition masked
  have holds : s.dev.regs.event &&& w.extractLsb' 8 4 ≠ 0 → masked.regs.condition = true :=
    (Registers.condition_iff masked.regs).2
  have before : s.dev.regs.event &&& s.dev.regs.mask = 0 → s.dev.regs.condition = false :=
    (Registers.condition_eq_false_iff s.dev.regs).2
  refine ⟨_, hexec, ?frame, ?line, fun hno => ?drops, fun hc hheld => ?goesOn, fun hc hnew hon hup hmast => ?sends,
    fun hc hnew hon hblocked => ?waits⟩
  case frame => simp only [hframe]; rfl
  case line => rw [Device.line_iff]; simp only [hframe]; rfl
  case drops =>
    rw [testInterrupt_drops ((Registers.condition_eq_false_iff masked.regs).2 hno)]
    exact ⟨rfl, rfl⟩
  case goesOn =>
    rw [(Registers.condition_iff s.dev.regs).2 hheld, testInterrupt_goesOn (holds hc)]
    exact ⟨rfl, rfl⟩
  case sends =>
    have hcan : masked.link.canIssue = true := by simp [masked, Device.masked, LinkPort.canIssue, hup, hmast]
    rw [before hnew, testInterrupt_due (holds hc) hon, messageDue, if_pos hcan]
    exact ⟨rfl, rfl⟩
  case waits =>
    have hcan : ¬masked.link.canIssue = true := by simpa [masked, Device.masked, LinkPort.canIssue] using hblocked
    rw [before hnew, testInterrupt_due (holds hc) hon, messageDue, if_neg hcan]
    exact ⟨rfl, rfl⟩

end Sys2Proof.Machine
end

section
/-!
PROOFS. What CONTROL reads after a CONTROL write (R173, R176): its fields, TABLE BASE and the stroke clock, which a frame start,
a sweep that ends and a resumed part all leave.
-/
namespace Sys2Proof.Machine

open Sys2Proof

/-- The CONTROL fields, TABLE BASE and the stroke clock. -/
def Device.controlView (d : Device) : KeptRegs × Micros := (d.regs.kept, d.clock)

/-- What settles after an event leaves them. -/
theorem controlView_of_kept {d d' : Device} (h : d'.kept = d.kept) : d'.controlView = d.controlView :=
  congrArg (fun k => (k.regs, k.clock)) h

/-! ### A record produced (R95, R99 to R105) -/

section
variable (d : Device)

theorem controlView_settleLink : (settleLink d).controlView = d.controlView := controlView_of_kept (kept_settleLink d)

theorem controlView_setCause (c : Cause) : (setCause c d).controlView = d.controlView := controlView_of_kept (kept_setCause c d)

theorem controlView_evict : (evict d).controlView = d.controlView := by
  unfold evict
  split
  · rfl
  · rw [controlView_setCause]
    split <;> rfl

theorem controlView_joinHolding (r : Record) : (joinHolding r d).controlView = d.controlView := by
  unfold joinHolding
  extract_lets joined
  split
  · exact controlView_setCause joined .hold
  · rfl

theorem controlView_appendHolding (r : Record) : (appendHolding r d).controlView = d.controlView := by
  unfold appendHolding
  split
  · exact controlView_joinHolding d r
  · split
    · exact controlView_setCause _ .hold
    · exact (controlView_joinHolding _ r).trans (controlView_evict d)

theorem controlView_deliver (r : Record) : (deliver r d).controlView = d.controlView := by
  unfold deliver
  split
  · split
    · exact controlView_of_kept (d := setGap r.ch false d) (kept_placeIn _ _ _)
    · exact controlView_appendHolding d r
  · exact controlView_appendHolding d r

theorem controlView_produce (r : Record) : (produce r d).controlView = d.controlView :=
  (controlView_settleLink _).trans (controlView_deliver _ r)

/-! ### A frame start (R4, R11, R14) -/

theorem controlView_traceChannelOff (ch : Channel) : (traceChannelOff ch d).controlView = d.controlView := by
  unfold traceChannelOff
  split
  · rfl
  · split
    · rfl
    · split <;> rfl

theorem controlView_toIdle (ch : Channel) : (toIdle ch d).controlView = d.controlView := by
  unfold toIdle
  split
  · rfl
  · exact (controlView_settleLink _).trans (controlView_traceChannelOff _ ch)

theorem controlView_leaveTracking (ch : Channel) (tag : Micros) (slip : Bool) :
    (leaveTracking ch tag slip d).controlView = d.controlView := by
  unfold leaveTracking
  split
  · exact controlView_produce d _
  · rfl

theorem controlView_disableChannel (ch : Channel) (want : Bool) (tag : Micros) :
    (disableChannel ch want tag d).controlView = d.controlView := by
  unfold disableChannel
  split
  · rfl
  · exact (controlView_toIdle _ ch).trans (controlView_leaveTracking d ch tag _)

theorem controlView_applySettings (p : ScanSetupParams) (tag : Micros) (running : Bool) :
    (applySettings p tag running d).controlView = d.controlView := by
  refine (controlView_disableChannel _ .b _ tag).trans ((controlView_disableChannel _ .a _ tag).trans ?_)
  split <;> rfl

theorem controlView_applyWaiting (tag : Micros) (running : Bool) : (applyWaiting tag running d).controlView = d.controlView := by
  unfold applyWaiting
  split
  · exact (controlView_settleLink _).trans (controlView_applySettings { d with exec := none } _ tag running)
  · rfl

theorem controlView_startFrame : (startFrame d).controlView = d.controlView := by
  rw [startFrame_eq]
  exact controlView_applyWaiting d d.clock true

/-! ### What a CONTROL write brings about (R11, R135, R171) -/

theorem controlView_runEdge (was : Bool) : (runEdge was d).controlView = d.controlView := by
  unfold runEdge
  split
  · exact controlView_startFrame _
  · rfl

theorem controlView_intakeEdge (was : Bool) : (intakeEdge was d).controlView = d.controlView := by
  unfold intakeEdge
  split
  · obtain ⟨sweep, waiting, hoff⟩ :=
      sweepIntakeOff_frame { d with intake := { d.intake with promptPending := false } }
    rw [hoff]
    rfl
  · rfl

theorem controlView_resumeAct : (resumeAct d).controlView = d.controlView := by
  unfold resumeAct
  split
  · exact (controlView_settleLink _).trans (controlView_of_kept (kept_drainWalk _))
  · rfl

/-- The fields become those of the word, and TABLE BASE and the clock stay (R176). -/
theorem controlView_controlWrite (w : BitVec 32) : (controlWrite w d).controlView =
    ({ run := w.getLsbD 0, intake := w.getLsbD 1, batch := w.getLsbD 2, mask := w.extractLsb' 8 4, base := d.regs.tableBase },
      d.clock) := by
  obtain ⟨sent, msg, hfields⟩ := controlFields_frame w d
  have hedges : (intakeEdge d.regs.intake (runEdge d.regs.run (controlFields w d))).controlView
      = (d.withControl w sent msg).controlView := by
    rw [controlView_intakeEdge, controlView_runEdge, hfields]
  refine Eq.trans ?_ hedges
  unfold controlWrite
  extract_lets wasRun wasIntake edged
  split
  · exact controlView_resumeAct edged
  · rfl

end

/-! ### The register's value (R174) -/

/-- A word's bit as a number. -/
theorem bit_getLsbD (w : BitVec 32) (n : Nat) : bit (w.getLsbD n) = w.toNat / 2 ^ n % 2 := by
  rw [← BitVec.testBit_toNat, Nat.testBit_eq_decide_div_mod_eq]
  simp only [bit, decide_eq_true_eq]
  split <;> omega

/-- The bits of CONTROL's fields, as a number. -/
theorem toNat_controlBits (w : BitVec 32) : (w &&& 0xF07#32).toNat = w.toNat % 2 ^ 3 + w.toNat / 2 ^ 8 % 2 ^ 4 * 2 ^ 8 := by
  have hlow : (w.toNat &&& 0xF07) % 2 ^ 8 = w.toNat % 2 ^ 8 % 2 ^ 3 := by
    rw [Nat.and_mod_two_pow]; exact Nat.and_two_pow_sub_one_eq_mod _ 3
  have hhigh : (w.toNat &&& 0xF07) / 2 ^ 8 = w.toNat / 2 ^ 8 % 2 ^ 4 := by
    rw [Nat.and_div_two_pow]; exact Nat.and_two_pow_sub_one_eq_mod _ 4
  rw [BitVec.toNat_and, show (0xF07#32).toNat = 0xF07 from rfl]
  omega

/-- A CONTROL register that holds a word's fields reads as those, and 0 elsewhere. -/
theorem controlReg_of_fields {r : Registers} {w : BitVec 32} (hrun : r.run = w.getLsbD 0) (hintake : r.intake = w.getLsbD 1)
    (hbatch : r.batch = w.getLsbD 2) (hmask : r.mask = w.extractLsb' 8 4) : r.controlReg = (w &&& 0xF07#32).toNat := by
  rw [toNat_controlBits, Registers.controlReg, hrun, hintake, hbatch, hmask, bit_getLsbD, bit_getLsbD, bit_getLsbD,
    BitVec.extractLsb'_toNat, Nat.shiftRight_eq_div_pow]
  omega

/-- Each of the seven CONTROL commands, with a word its row allows, is that CONTROL write (log entry 3). -/
theorem exec_controlRow {w : BitVec 32} {i : Instr}
    (hmem : i ∈ [Instr.runSet w, .runClear w, .intakeSet w, .intakeClear w, .batch w, .maskWrite w, .resume w])
    (hwf : i.wf = true) (s : State) : Sys2Proof.Machine.exec i s = .next (onDevice (controlWrite w) s) := by
  simp only [List.mem_cons, List.not_mem_nil, or_false] at hmem
  rcases hmem with rfl | rfl | rfl | rfl | rfl | rfl | rfl
  · exact exec_runSet hwf s
  · exact exec_runClear hwf s
  · exact exec_intakeSet hwf s
  · exact exec_intakeClear hwf s
  · exact exec_batch hwf s
  · exact exec_maskWrite hwf s
  · exact exec_resume hwf s

/-- Settles O6: every row is the CONTROL write of its word, and what that brings about leaves the fields. -/
theorem controlReadsAsWritten : Obligations.ControlReadsAsWritten := by
  intro s w i hmem hwf
  have hview := controlView_controlWrite s.dev w
  simp only [Device.controlView, Registers.kept, Prod.mk.injEq, KeptRegs.mk.injEq] at hview
  obtain ⟨⟨hrun, hintake, hbatch, hmask, hbase⟩, hclock⟩ := hview
  exact ⟨_, exec_controlRow hmem hwf s, rfl, controlReg_of_fields hrun hintake hbatch hmask, hbase, hclock⟩

end Sys2Proof.Machine
end

section
/-!
PROOFS. TABLE BASE, and the write accesses that no register takes (R173, R181).
-/
namespace Sys2Proof.Machine

open Sys2Proof

/-! ### Discarded accesses (R173) -/

/-- IDENT and STATUS take no write, and no register stands at 0x28 or above. -/
theorem writeWord_discarded {offset : Nat} (h : offset = 0x00 ∨ offset = 0x08 ∨ 0x28 ≤ offset) (v : BitVec 32) (d : Device) :
    writeWord offset v d = d := by
  unfold writeWord
  split
  case h_9 => rfl
  all_goals omega

/-- A write that is narrower than 4 bytes, crosses a 4-byte boundary, or finds no register that takes it, changes nothing. -/
theorem writeAccess_discarded {offset width : Nat} (h : width < 4 ∨ (offset % 4 + width > 4 ∧ ¬(width = 8 ∧ offset = 0x20))
    ∨ (width = 4 ∧ (offset = 0x00 ∨ offset = 0x08 ∨ 0x28 ≤ offset))) (v : BitVec 64) (d : Device) :
    writeAccess offset width v d = d := by
  rw [writeAccess, if_neg (by omega)]
  split
  · exact writeWord_discarded (by omega) _ _
  · rfl

/-! ### The words of TABLE BASE (R181) -/

/-- The high and the low word of two words put together. -/
theorem toNat_append_words (x y : BitVec 32) : (x ++ y).toNat = x.toNat * 2 ^ 32 + y.toNat := by
  rw [BitVec.toNat_append, ← Nat.shiftLeft_add_eq_or_of_lt y.isLt, Nat.shiftLeft_eq]

/-- Bits 0..11 at 0. -/
theorem toNat_clearLow (v : BitVec 32) : (v &&& ~~~(0xFFF : BitVec 32)).toNat = v.toNat - v.toNat % 4096 := by
  have hmask : ~~~(0xFFF : BitVec 32) = BitVec.allOnes 32 <<< 12 := by decide
  rw [hmask, ← BitVec.shiftLeft_ushiftRight, BitVec.toNat_shiftLeft, BitVec.toNat_ushiftRight, Nat.shiftLeft_eq,
    Nat.shiftRight_eq_div_pow]
  have := v.isLt
  omega

/-- The low word's bits 12..31 are replaced. -/
theorem toNat_baseLow (base : Addr) (v : BitVec 32) :
    (baseLow base v).toNat = base.toNat / 2 ^ 32 * 2 ^ 32 + (v.toNat - v.toNat % 4096) := by
  have hhigh : base.toNat / 2 ^ 32 < 2 ^ 32 := Nat.div_lt_of_lt_mul base.isLt
  rw [baseLow, toNat_append_words, toNat_clearLow, BitVec.extractLsb'_toNat, Nat.shiftRight_eq_div_pow,
    Nat.mod_eq_of_lt hhigh]

/-- The high word is replaced. -/
theorem toNat_baseHigh (base : Addr) (v : BitVec 32) : (baseHigh base v).toNat = v.toNat * 2 ^ 32 + base.toNat % 2 ^ 32 := by
  rw [baseHigh, toNat_append_words, BitVec.extractLsb'_toNat, Nat.shiftRight_zero]

/-- Both words are replaced. -/
theorem toNat_newBase_both (base : Addr) (u : BitVec 64) : (newBase base (.both u)).toNat = u.toNat - u.toNat % 4096 := by
  simp only [newBase, toNat_baseHigh, toNat_baseLow, BitVec.extractLsb'_toNat, Nat.shiftRight_eq_div_pow]
  have := u.isLt
  omega

/-! ### TABLE_BASE_WRITE (R181) -/

theorem baseWrite_discarded {d : Device} (h : d.regs.intake = true) (a : TableBaseAccess) : baseWrite a d = d := if_pos h

theorem baseWrite_taken {d : Device} (h : d.regs.intake = false) (a : TableBaseAccess) :
    baseWrite a d = { d with regs := { d.regs with tableBase := newBase d.regs.tableBase a } } :=
  if_neg (by simp [h])

/-- Settles O14. -/
theorem tableBaseAndDiscardedWrites : Obligations.TableBaseAndDiscardedWrites := by
  intro s v u
  refine ⟨fun offset width x h => effect_next ?discarded, fun a hi => effect_next (baseWrite_discarded hi a),
    fun hi => ?taken⟩
  case discarded =>
    refine writeAccess_discarded ?_ x s.dev
    simpa [BitVec.toNat_eq] using h
  case taken =>
    have hlow := toNat_baseLow s.dev.regs.tableBase v
    have hhigh := toNat_baseHigh s.dev.regs.tableBase v
    have hv := v.isLt
    refine ⟨⟨_, effect_next (baseWrite_taken hi (.low v)), rfl, ?_, ?_⟩,
      ⟨_, effect_next (baseWrite_taken hi (.high v)), rfl, ?_, ?_⟩,
      _, effect_next (baseWrite_taken hi (.both u)), rfl, toNat_newBase_both _ u⟩
    all_goals
      simp only [Device.readRegister, newBase, hlow, hhigh]
      omega

end Sys2Proof.Machine
end

section
/-!
PROOFS. The images the part writes (chapter 12): a run of little-endian fields read back at their offsets, and the strip,
result, record and trace frame images as such runs.
-/
namespace Sys2Proof.Machine

open Sys2Proof

/-! ### Fields of a byte string (R189) -/

/-- Numbers stored one after another, each given with the bytes it takes. -/
def packed (fs : List (Nat × Nat)) : List Byte := fs.flatMap fun f => le f.1 f.2

theorem length_packed (fs : List (Nat × Nat)) : (packed fs).length = (fs.map Prod.fst).sum := by
  simp [packed, List.length_flatMap, length_le]

/-- A field past the first bytes is a field of the rest. -/
theorem field_append_right {bytes : List Byte} {offset : Nat} (h : bytes.length = offset) (rest : List Byte) (k n : Nat) :
    field (bytes ++ rest) (offset + k) n = field rest k n := by
  rw [field, field, ← h, List.drop_length_add_append]

/-- A number within its range, read at the first bytes. -/
theorem field_le_append {n v : Nat} (h : v < 256 ^ n) (rest : List Byte) : field (le n v ++ rest) 0 n = v := by
  rw [field, List.drop_zero, List.take_left' (length_le n v), leValue_le n h]

/-- The field of a run at position k is read at the offset that the fields before it take. -/
theorem field_packed {fs : List (Nat × Nat)} {widths : List Nat} (hwidths : fs.map Prod.fst = widths) {k offset n v : Nat}
    (hk : fs[k]? = some (n, v)) (hoffset : (widths.take k).sum = offset) (hv : v < 256 ^ n) (rest : List Byte) :
    field (packed fs ++ rest) offset n = v := by
  obtain ⟨hlt, hget⟩ := List.getElem?_eq_some_iff.1 hk
  have hbefore : (packed (fs.take k)).length = offset := by
    rw [length_packed, List.map_take, hwidths, hoffset]
  have hsplit : packed fs ++ rest = packed (fs.take k) ++ (le n v ++ (packed (fs.drop (k + 1)) ++ rest)) := by
    conv_lhs => rw [← List.take_append_drop k fs, List.drop_eq_getElem_cons hlt, hget]
    simp [packed]
  rw [hsplit, ← Nat.add_zero offset, field_append_right hbefore, field_le_append hv]

theorem length_padTo (n : Nat) (bytes : List Byte) : (padTo n bytes).length = n := by
  rw [padTo, List.length_append, List.length_take, List.length_replicate]
  omega

/-- A byte string no longer than n is filled up with 0. -/
theorem padTo_eq {n : Nat} {bytes : List Byte} (h : bytes.length ≤ n) :
    padTo n bytes = bytes ++ List.replicate (n - bytes.length) 0 := by
  rw [padTo, List.take_of_length_le h]

/-- The two's complement number of a signed value fits two bytes. -/
theorem toNat_emod_lt (v : Int) : (v % (256 ^ 2 : Nat)).toNat < 256 ^ 2 := by omega

/-- Read as a signed word, the two's complement number of a 16-bit value is that value. -/
theorem toInt_ofNat_emod {v : Int} (hlo : -32768 ≤ v) (hhi : v < 32768) :
    (BitVec.ofNat 16 (v % (256 ^ 2 : Nat)).toNat).toInt = v := by
  rw [BitVec.toInt_ofNat', Int.bmod_def]
  omega

/-! ### Stored codes (R193, R196, R197) -/

theorem channelCode_eq (ch : Channel) : channelCode ch = if ch = .a then 0 else 1 := by cases ch <;> rfl

theorem channelCode_lt (ch : Channel) : channelCode ch < 256 := by cases ch <;> decide

theorem RecState.code_lt (x : RecState) : x.code < 256 := by cases x <;> decide

theorem RecEvent.code_lt (x : RecEvent) : x.code < 256 := by cases x <;> decide

theorem TrackState.code_lt (x : TrackState) : x.code < 256 := by cases x <;> decide

theorem symbolCode_lt (x : Symbol) : symbolCode x < 256 := by
  cases x with
  | none | mark => decide
  | digit d => exact d.isLt.trans (by decide)

/-- The record states in the order of their codes. -/
theorem RecState.getElem?_code (x : RecState) : [RecState.none, .hover, .contact][x.code]? = some x := by
  cases x <;> rfl

/-- The record events in the order of their codes. -/
theorem RecEvent.getElem?_code (x : RecEvent) :
    [RecEvent.none, .proxIn, .touch, .lift, .proxOut][x.code]? = some x := by
  cases x <;> rfl

theorem TrackState.code_injective : Function.Injective TrackState.code := by
  intro a b; cases a <;> cases b <;> simp [TrackState.code]

/-! ### The flags word (R196) -/

/-- The flags by their bits. -/
def RecFlags.bits (f : RecFlags) : Fin 15 → Bool :=
  ![f.gap, f.slip, f.edgeX, f.edgeY, f.clip, f.mapFault, f.noMap, f.tiltLimit, f.noTilt, f.toolPending, f.toolUnlisted,
    f.toolFailed, f.bridged, f.strokeEnd, f.profileChanged]

theorem RecFlags.word_eq_ofBits (f : RecFlags) : f.word = Nat.ofBits f.bits := by
  have hbit (b : Bool) : bit b = b.toNat := by cases b <;> rfl
  simp only [Nat.ofBits_succ, Nat.ofBits_zero, RecFlags.word, hbit]
  simp only [RecFlags.bits, Function.comp_apply, Matrix.cons_val_zero, Matrix.cons_val_succ]
  omega

theorem RecFlags.word_lt (f : RecFlags) : f.word < 2 ^ 15 := f.word_eq_ofBits ▸ Nat.ofBits_lt_two_pow _

/-- Each flag stands at its bit of the word. -/
theorem RecFlags.word_bit (f : RecFlags) (i : Fin 15) : f.word / 2 ^ i.val % 2 = 1 ↔ f.bits i = true := by
  rw [f.word_eq_ofBits, ← Nat.testBit_ofBits_lt f.bits i.val i.isLt, Nat.testBit_eq_decide_div_mod_eq, decide_eq_true_iff]

/-! ### A record (R196) -/

/-- The fields of a record's image, in order. -/
def Record.layout (r : Record) : List (Nat × Nat) :=
  [(1, channelCode r.ch), (1, r.state.code), (1, r.event.code), (1, 0), (2, r.flags.word), (2, r.stroke.toNat),
    (4, r.timeTag.toNat), (2, r.x), (2, r.y), (2, r.pressure), (2, (r.tiltX % (256 ^ 2 : Nat)).toNat),
    (2, (r.tiltY % (256 ^ 2 : Nat)).toNat), (2, r.tool.toNat), (2, r.seq.toNat), (2, r.phase.toNat), (4, 0)]

theorem Record.image_eq (r : Record) : r.image = packed r.layout := by
  simp [Record.image, packed, Record.layout, leSigned]

/-- The bytes each field of a record takes. -/
def recordWidths : List Nat := [1, 1, 1, 1, 2, 2, 4, 2, 2, 2, 2, 2, 2, 2, 2, 4]

theorem Record.layout_widths (r : Record) : r.layout.map Prod.fst = recordWidths := rfl

theorem Record.length_image (r : Record) : r.image.length = 32 := by
  rw [r.image_eq, length_packed, r.layout_widths]; rfl

/-- A field of a record, by its position in the layout. -/
theorem Record.field_image (r : Record) (k : Nat) {offset n v : Nat} (hk : r.layout[k]? = some (n, v))
    (hoffset : (recordWidths.take k).sum = offset) (hv : v < 256 ^ n) : field r.image offset n = v := by
  rw [r.image_eq, ← List.append_nil (packed _), field_packed r.layout_widths hk hoffset hv]

theorem Record.field_flags (r : Record) : field r.image 4 2 = r.flags.word :=
  r.field_image 4 rfl rfl (r.flags.word_lt.trans (by decide))

/-- Each flag at its bit of the record's flags field. -/
theorem Record.field_flag (r : Record) (i : Fin 15) : field r.image 4 2 / 2 ^ i.val % 2 = 1 ↔ r.flags.bits i = true := by
  rw [r.field_flags, r.flags.word_bit]

/-- No flag stands at bit 15. -/
theorem Record.field_flags_high (r : Record) : field r.image 4 2 / 2 ^ 15 = 0 := by
  rw [r.field_flags, Nat.div_eq_of_lt r.flags.word_lt]

/-! ### A trace frame (R197) -/

/-- The fields of a trace frame's image before its amplitudes, in order. -/
def TraceFrame.header (t : TraceFrame) : List (Nat × Nat) :=
  [(4, t.timeTag.toNat), (1, channelCode t.ch), (1, t.state.code), (1, bit t.pre + 2 * bit t.trigger),
    (1, symbolCode t.symbol), (2, t.r.toNat), (1, t.tipX.origin), (1, t.tipY.origin), (1, t.ringX.origin),
    (1, t.ringY.origin), (10, 0)]

theorem TraceFrame.image_eq (t : TraceFrame) :
    t.image = packed t.header ++ (ampGroup t.tipX ++ (ampGroup t.tipY ++ (ampGroup t.ringX ++ ampGroup t.ringY))) := by
  simp [TraceFrame.image, packed, TraceFrame.header]

/-- The bytes each field of a trace frame before its amplitudes takes. -/
def headerWidths : List Nat := [4, 1, 1, 1, 1, 2, 1, 1, 1, 1, 10]

theorem TraceFrame.header_widths (t : TraceFrame) : t.header.map Prod.fst = headerWidths := rfl

theorem TraceFrame.length_header (t : TraceFrame) : (packed t.header).length = 24 := by
  rw [length_packed, t.header_widths]; rfl

theorem length_ampGroup (p : PartResult) : (ampGroup p).length = 18 := length_padTo 18 _

theorem TraceFrame.length_image (t : TraceFrame) : t.image.length = 96 := by
  simp only [t.image_eq, List.length_append, t.length_header, length_ampGroup]

/-- A field of a trace frame before its amplitudes, by its position in the header. -/
theorem TraceFrame.field_image (t : TraceFrame) (k : Nat) {offset n v : Nat} (hk : t.header[k]? = some (n, v))
    (hoffset : (headerWidths.take k).sum = offset) (hv : v < 256 ^ n) : field t.image offset n = v := by
  rw [t.image_eq, field_packed t.header_widths hk hoffset hv]

/-- Nine amplitudes are a group, with no padding. -/
theorem ampGroup_eq {p : PartResult} (h : p.amps.length = 9) : ampGroup p = packed (p.amps.map fun a => (2, a.toNat)) := by
  have hflat : (p.amps.flatMap fun a => le 2 a.toNat) = packed (p.amps.map fun a => (2, a.toNat)) := by
    rw [packed, List.flatMap_map]
  have hlen : (packed (p.amps.map fun a => (2, a.toNat))).length = 18 := by
    simp [length_packed, Function.comp_def, h]
  rw [ampGroup, hflat, padTo_eq hlen.le, hlen]
  exact List.append_nil _

/-- The amplitudes of a group stand 2 bytes apart. -/
theorem field_ampGroup {p : PartResult} (h : p.amps.length = 9) (rest : List Byte) {k : Nat} (hk : k < 9) :
    field (ampGroup p ++ rest) (2 * k) 2 = (p.amps.getD k 0).toNat := by
  have hwidths : (p.amps.map fun a => (2, a.toNat)).map Prod.fst = List.replicate 9 2 := by
    simp [Function.comp_def, h]
  have hoffset : ((List.replicate 9 2).take k).sum = 2 * k := by
    rw [List.take_replicate, List.sum_replicate, min_eq_left hk.le, smul_eq_mul, Nat.mul_comm]
  have hget : (p.amps.map fun a => (2, a.toNat))[k]? = some (2, (p.amps.getD k 0).toNat) := by
    simp [h, hk]
  rw [ampGroup_eq h, field_packed hwidths hget hoffset (p.amps.getD k 0).isLt]

/-- A part's group in an image is read at the offset that the bytes before it take. -/
theorem field_group {image pre rest : List Byte} {p : PartResult} {offset : Nat}
    (himage : image = pre ++ (ampGroup p ++ rest)) (hpre : pre.length = offset) (h : p.amps.length = 9) :
    ∀ k < 9, field image (offset + 2 * k) 2 = (p.amps.getD k 0).toNat := by
  intro k hk
  rw [himage, field_append_right hpre, field_ampGroup h rest hk]

/-- Bit 0 and bit 1 of a trace frame's marks. -/
theorem marks_eq (pre trigger : Bool) :
    bit pre + 2 * bit trigger = (if pre then 1 else 0) + (if trigger then 2 else 0) := by
  cases trigger <;> rfl

theorem marks_lt (pre trigger : Bool) : bit pre + 2 * bit trigger < 256 := by
  have := bit_le_one pre
  have := bit_le_one trigger
  omega

/-! ### Strip and result writes (R190, R193) -/

theorem resultWrite_addr (m : SlotMark) (st : Status) (dt : Detail) (fields : List Byte) :
    (resultWrite m st dt fields).addr = m.base + BitVec.ofNat 64 (128 + 64 * m.slot.val + 40) := by
  rw [BitVec.ofNat_add (128 + _), ← BitVec.add_assoc]
  rfl

theorem resultWrite_data (m : SlotMark) (st : Status) (dt : Detail) (fields : List Byte) :
    (resultWrite m st dt fields).data = [BitVec.ofNat 8 st.code, BitVec.ofNat 8 dt.code, 0, 0] ++ padTo 20 fields := rfl

theorem resultWrite_length (m : SlotMark) (st : Status) (dt : Detail) (fields : List Byte) :
    (resultWrite m st dt fields).data.length = 24 := by
  simp only [resultWrite, resultImage, List.length_append, length_le, length_padTo]

/-- Settles O56: each image is a run of fields, and a field of a run is read back at its offset. The statement's own reads
are put as `field` first, so that no offset is compared by unfolding an image. -/
theorem writtenImages : Obligations.WrittenImages := by
  refine ⟨?slot, ?record, ?frame⟩
  case slot =>
    intro m st dt fields
    refine ⟨rfl, rfl, rfl, rfl, resultWrite_addr m st dt fields, resultWrite_length m st dt fields, ?_, fun h => ?_⟩
    · rw [resultWrite_data]; rfl
    · rw [resultWrite_data, ← padTo_eq h]; rfl
  case record =>
    intro r hx hy hp hxlo hxhi hylo hyhi f
    have hf : f = field r.image := rfl
    clear_value f
    subst hf
    intro flag
    have hstate : field r.image 1 1 = r.state.code := r.field_image 1 rfl rfl r.state.code_lt
    have hevent : field r.image 2 1 = r.event.code := r.field_image 2 rfl rfl r.event.code_lt
    have htiltX : field r.image 18 2 = (r.tiltX % (256 ^ 2 : Nat)).toNat := r.field_image 10 rfl rfl (toNat_emod_lt _)
    have htiltY : field r.image 20 2 = (r.tiltY % (256 ^ 2 : Nat)).toNat := r.field_image 11 rfl rfl (toNat_emod_lt _)
    exact ⟨r.length_image, (r.field_image 0 rfl rfl (channelCode_lt _)).trans (channelCode_eq _),
      r.field_image 3 rfl rfl (by decide), hstate ▸ r.state.getElem?_code, hevent ▸ r.event.getElem?_code,
      r.field_image 5 rfl rfl r.stroke.isLt, r.field_image 6 rfl rfl r.timeTag.isLt, r.field_image 7 rfl rfl hx,
      r.field_image 8 rfl rfl hy, r.field_image 9 rfl rfl hp, htiltX ▸ toInt_ofNat_emod (by omega) (by omega),
      htiltY ▸ toInt_ofNat_emod (by omega) (by omega), r.field_image 12 rfl rfl r.tool.isLt,
      r.field_image 13 rfl rfl r.seq.isLt, r.field_image 14 rfl rfl (r.phase.isLt.trans (by decide)),
      r.field_image 15 rfl rfl (by decide), r.field_flag 0, r.field_flag 1, r.field_flag 2, r.field_flag 3,
      r.field_flag 4, r.field_flag 5, r.field_flag 6, r.field_flag 7, r.field_flag 8, r.field_flag 9, r.field_flag 10,
      r.field_flag 11, r.field_flag 12, r.field_flag 13, r.field_flag 14, r.field_flags_high⟩
  case frame =>
    intro t htx hty hrx hry hatx haty harx hary f
    have hf : f = field t.image := rfl
    clear_value f
    subst hf
    intro group
    have hstate : field t.image 5 1 = t.state.code := t.field_image 2 rfl rfl t.state.code_lt
    have hsymbol : field t.image 7 1 = symbolCode t.symbol := t.field_image 4 rfl rfl (symbolCode_lt _)
    refine ⟨t.length_image, t.field_image 0 rfl rfl t.timeTag.isLt,
      (t.field_image 1 rfl rfl (channelCode_lt _)).trans (channelCode_eq _),
      code_iff TrackState.code_injective hstate rfl, code_iff TrackState.code_injective hstate rfl,
      code_iff TrackState.code_injective hstate rfl, code_iff TrackState.code_injective hstate rfl,
      (t.field_image 3 rfl rfl (marks_lt _ _)).trans (marks_eq _ _), fun d h => hsymbol.trans (congrArg symbolCode h),
      fun h => hsymbol.trans (congrArg symbolCode h), fun h => hsymbol.trans (congrArg symbolCode h),
      t.field_image 5 rfl rfl (t.r.isLt.trans (by decide)), t.field_image 6 rfl rfl htx, t.field_image 7 rfl rfl hty,
      t.field_image 8 rfl rfl hrx, t.field_image 9 rfl rfl hry, t.field_image 10 rfl rfl (by decide), ?tipX, ?tipY,
      ?ringX, ?ringY⟩
    case tipX => exact field_group t.image_eq t.length_header hatx
    case tipY =>
      refine field_group (pre := packed t.header ++ ampGroup t.tipX) (rest := ampGroup t.ringX ++ ampGroup t.ringY) ?_ ?_
        haty
      · simp only [t.image_eq, List.append_assoc]
      · rw [List.length_append, t.length_header, length_ampGroup]
    case ringX =>
      refine field_group (pre := packed t.header ++ ampGroup t.tipX ++ ampGroup t.tipY) (rest := ampGroup t.ringY) ?_ ?_ harx
      · simp only [t.image_eq, List.append_assoc]
      · simp only [List.length_append, t.length_header, length_ampGroup]
    case ringY =>
      refine field_group (pre := packed t.header ++ ampGroup t.tipX ++ ampGroup t.tipY ++ ampGroup t.ringX) (rest := [])
        ?_ ?_ hary
      · simp only [t.image_eq, List.append_assoc, List.append_nil]
      · simp only [List.length_append, t.length_header, length_ampGroup]

end Sys2Proof.Machine
end
